-- ==== Sys2Proof/Word.lean ====
section
/-! DEFINITION. The word types of CRC16FC: bytes, 16-bit words and the 32-bit values of the host port
(spec/00_scope.md section 6, "Types"). Every value is unsigned. -/

namespace Sys2Proof

/-- `u8`: a byte of a memory, an operation ID, a payload length. -/
abbrev Byte := BitVec 8

/-- `u16`: a CRC value, a command field, a command word. -/
abbrev Half := BitVec 16

/-- `u32`: a value on the host port (spec/20_memory.md R54). -/
abbrev Word32 := BitVec 32

end Sys2Proof
end

