-- ==== Sys2Proof/Config.lean ====
section
/-! DEFINITION. What is fixed for one block: the constants the source fixes (spec/00_scope.md R5), the open
parameter RX_CAPACITY (R6), and the free contents of memory after a hardware reset
(spec/70_reset_and_hazards.md R172). -/

namespace Sys2Proof

/-- The four byte memories, each its own address space (spec/10_state.md R35). -/
inductive Space where
  | reqPayload   -- REQ_PAYLOAD
  | txBuf        -- TXBUF
  | rxBuf        -- RXBUF
  | rspPayload   -- RSP_PAYLOAD
  deriving DecidableEq, Repr

/-- The open parameter of the block (spec/00_scope.md R6): the number of bytes of the receive buffer. -/
structure Config where
  /-- `RX_CAPACITY`. -/
  rxCapacity : Nat
  deriving DecidableEq, Repr

/-- The range of RX_CAPACITY, both ends included (spec/00_scope.md R6; decision D26). -/
abbrev Config.legal (c : Config) : Prop := 265 ≤ c.rxCapacity ∧ c.rxCapacity ≤ 65535

/-- RX_CAPACITY at its default, 512 (spec/00_scope.md R6). -/
def Config.default : Config := { rxCapacity := 512 }

/-- The byte that the cell at an index of a space holds from the hardware reset numbered by the first
argument until it is first written: unspecified, stable, and not the same at two resets
(spec/70_reset_and_hazards.md R172). A FREE VALUE (log 5): nothing is known of it. -/
opaque Config.unwrittenByte : Nat → Space → Nat → Byte

/-- The CRC polynomial in reflected form (spec/00_scope.md R5). -/
def crcPoly : Half := 0xA001#16

/-- The CRC seed (spec/00_scope.md R5). -/
def crcSeed : Half := 0xFFFF#16

/-- The header length of a frame, in bytes (spec/00_scope.md R5). -/
def headerLength : Nat := 8

end Sys2Proof
end

