-- ==== Sys2Proof/Syntax.lean ====
section
/-! DEFINITION. The instruction set: the seven commands of spec/30_encoding.md R78, one constructor per row of
spec/opcode_table.json. -/

namespace Sys2Proof

/-- A command of the engine (spec/30_encoding.md R78). Only CRC.BYTE has an operand in the command word (R77). -/
inductive Instr where
  | nop                      -- NOP        43_system.md R141
  | crcInit                  -- CRC.INIT   40_crc.md R97
  | crcByte (imm8 : Byte)    -- CRC.BYTE   40_crc.md R98
  | crcCalc                  -- CRC.CALC   40_crc.md R99
  | frmEnc                   -- FRM.ENC    41_frame_encode.md R111
  | frmDec                   -- FRM.DEC    42_frame_decode.md R124
  | srst                     -- SRST       43_system.md R142
  deriving DecidableEq, Repr

end Sys2Proof
end

