-- ==== Sys2Proof/WellFormed.lean ====
section
/-! DEFINITION. Checks on what is written down: the two fields of a command word (spec/30_encoding.md R76, R79),
a Request (R74), and the parameter RX_CAPACITY (spec/00_scope.md R6). An `Instr` needs no check of its own: its
one operand is a byte by type (R77). -/

namespace Sys2Proof

/-- The two fields of a command word, format C (spec/30_encoding.md R76). -/
structure CommandFields where
  op : Byte
  imm8 : Byte
  deriving DecidableEq, Repr

/-- `op` is one of the seven opcodes (spec/30_encoding.md R78, R79 (a)). -/
def CommandFields.opKnown (f : CommandFields) : Bool :=
  f.op == 0x00#8 || f.op == 0x01#8 || f.op == 0x02#8 || f.op == 0x03#8 || f.op == 0x04#8 || f.op == 0x05#8
    || f.op == 0xFF#8

/-- `imm8` is 0 unless the command is CRC.BYTE (spec/30_encoding.md R76, R79 (b)). -/
def CommandFields.immAllowed (f : CommandFields) : Bool := f.op == 0x02#8 || f.imm8 == 0x00#8

/-- The fields of a legal command word: the negation of R79's two grounds. -/
def CommandFields.wellFormed (f : CommandFields) : Bool := f.opKnown && f.immAllowed

/-- The encoder's input (spec/00_scope.md glossary, "Request"). -/
structure Request where
  command : Half
  operationID : Byte
  payload : List Byte
  deriving DecidableEq, Repr

/-- "`len <= 255`" (spec/30_encoding.md R74; spec/41_frame_encode.md R110). -/
def Request.wellFormed (r : Request) : Bool := decide (r.payload.length ≤ 255)

/-- RX_CAPACITY is in its range (spec/00_scope.md R6). -/
def Config.wellFormed (c : Config) : Bool := decide c.legal

/-- Every instruction is well formed: its operand is a byte by type (spec/30_encoding.md R77). -/
def Instr.wellFormed (i : Instr) : Bool :=
  match i with
  | .nop => true
  | .crcInit => true
  | .crcByte _ => true
  | .crcCalc => true
  | .frmEnc => true
  | .frmDec => true
  | .srst => true

end Sys2Proof
end

