-- ==== Sys2Proof/Decode.lean ====
section
/-! DEFINITION. Decoding and encoding a command word (spec/30_encoding.md R76 to R80). A command is carried whole in
the value written to CMD; there is no fetch from memory (spec/20_memory.md R64). -/

namespace Sys2Proof

/-- Why a command word is illegal: R79's grounds (a) and (b). Both take the same failure ILLEGAL_CMD. -/
inductive DecodeError where
  /-- `op` is none of the seven opcodes (R79 (a)). -/
  | unknownOp (op : Byte)
  /-- `op` is known and not CRC.BYTE's, and `imm8` is not 0 (R79 (b)). -/
  | immNotZero (op imm8 : Byte)
  deriving DecidableEq, Repr

/-- A row of the opcode map (spec/30_encoding.md R78): a word `w` is the row's when `w & mask == pattern`. -/
structure OpcodeRow where
  mnemonic : String
  pattern : Half
  mask : Half
  /-- the command, given the word's `imm8` -/
  command : Byte → Instr

/-- The opcode map, all seven rows (spec/30_encoding.md R78). -/
def opcodeMap : List OpcodeRow :=
  [ ⟨"NOP",      0x0000#16, 0xFFFF#16, fun _ => .nop⟩,
    ⟨"CRC.INIT", 0x0001#16, 0xFFFF#16, fun _ => .crcInit⟩,
    ⟨"CRC.BYTE", 0x0002#16, 0x00FF#16, fun imm8 => .crcByte imm8⟩,
    ⟨"CRC.CALC", 0x0003#16, 0xFFFF#16, fun _ => .crcCalc⟩,
    ⟨"FRM.ENC",  0x0004#16, 0xFFFF#16, fun _ => .frmEnc⟩,
    ⟨"FRM.DEC",  0x0005#16, 0xFFFF#16, fun _ => .frmDec⟩,
    ⟨"SRST",     0x00FF#16, 0xFFFF#16, fun _ => .srst⟩ ]

/-- The word belongs to the row. -/
def OpcodeRow.covers (r : OpcodeRow) (w : Half) : Bool := w &&& r.mask == r.pattern

/-- Format C: `op` in bits 7:0, `imm8` in bits 15:8 (spec/30_encoding.md R76). -/
def commandFields (w : Half) : CommandFields := { op := w.extractLsb' 0 8, imm8 := w.extractLsb' 8 8 }

/-- Which ground of R79 makes a word illegal. -/
def illegalGround (f : CommandFields) : DecodeError :=
  if f.opKnown then .immNotZero f.op f.imm8 else .unknownOp f.op

/-- The decoder of command words: the one row that covers the word, or R79's ground (spec/30_encoding.md R78, R79). -/
def decode (w : Half) : Except DecodeError Instr :=
  match opcodeMap.find? (fun r => r.covers w) with
  | some r => .ok (r.command (commandFields w).imm8)
  | none => .error (illegalGround (commandFields w))

/-- The command of a value written to CMD: bits 31:16 are ignored (spec/30_encoding.md R76). -/
def decodeCommand (w : Word32) : Except DecodeError Instr := decode (w.setWidth 16)

/-- Format C put together: `imm8` above `op` (spec/30_encoding.md R76). -/
def commandWord (op imm8 : Byte) : Half := imm8 ++ op

/-- The command word of an instruction (spec/30_encoding.md R78, column "encoding"). -/
def encode (i : Instr) : Half :=
  match i with
  | .nop => commandWord 0x00#8 0x00#8
  | .crcInit => commandWord 0x01#8 0x00#8
  | .crcByte imm8 => commandWord 0x02#8 imm8
  | .crcCalc => commandWord 0x03#8 0x00#8
  | .frmEnc => commandWord 0x04#8 0x00#8
  | .frmDec => commandWord 0x05#8 0x00#8
  | .srst => commandWord 0xFF#8 0x00#8

/-- The value a host writes to CMD to issue an instruction (spec/30_encoding.md R84). -/
def encodeCommand (i : Instr) : Word32 := (encode i).setWidth 32

/-- The instruction the decoder reads from a table word of `nbits` bits, every bit above them 0. -/
def decodeTableWord (nbits w : Nat) : Option Instr :=
  match decodeCommand (BitVec.ofNat 32 (w % 2 ^ nbits)) with
  | .ok i => some i
  | .error _ => none

end Sys2Proof
end

