-- ==== Sys2Proof/Machine/Crc.lean ====
section
/-! DEFINITION. The CRC functions (spec/40_crc.md R90 to R92): bit-step, byte-step, checksum of a byte sequence. -/

namespace Sys2Proof.Machine

/-- The bit-step: the low bit is tested before the shift, the XOR comes after it (spec/40_crc.md R90). -/
def crcBit (c : Half) : Half := if c.getLsbD 0 then (c >>> 1) ^^^ crcPoly else c >>> 1

/-- The byte-step: the byte into the low byte, then eight bit-steps (spec/40_crc.md R91). -/
def crcByte (c : Half) (b : Byte) : Half :=
  crcBit (crcBit (crcBit (crcBit (crcBit (crcBit (crcBit (crcBit (c ^^^ b.setWidth 16))))))))

/-- `crc_from(s, B)`: the running value after the bytes, in increasing index order (spec/40_crc.md R92). -/
def crcFrom (c : Half) (B : List Byte) : Half := B.foldl crcByte c

/-- `crc16(B)`: from the seed, with no final XOR (spec/40_crc.md R92). -/
def crc16 (B : List Byte) : Half := crcFrom crcSeed B

end Sys2Proof.Machine
end

