-- ==== Sys2Proof/Machine/HostTypes.lean ====
section
/-! DEFINITION. What passes between the host and the block: register names, the six host actions
(spec/20_memory.md R50), the bus transactions that stand for them (R54 to R56), and the replies (spec/00_scope.md R8). -/

namespace Sys2Proof.Machine

/-- The twelve registers (spec/10_state.md R21). -/
inductive Reg where
  | cmd | status | cfg | crc | reqCmd | reqOpid | reqLen | txCount | rxCount | rspCmd | rspOpid | rspLen
  deriving DecidableEq, Repr

/-- A move of the host (spec/20_memory.md R50). `writeReg 0 v` is the same move as `issue v` (spec/10_state.md R29). -/
inductive HostAction where
  | readReg (i : Nat)
  | writeReg (i : Nat) (v : Word32)
  | issue (w : Word32)
  | readBuf (S : Space) (a : Nat)
  | writeBuf (S : Space) (a : Nat) (b : Byte)
  | hardReset
  deriving DecidableEq, Repr

/-- The width of a bus transaction. -/
inductive AccessWidth where
  | byte | half | word
  deriving DecidableEq, Repr

/-- A transaction on the host bus at a byte address (spec/20_memory.md R55). A write carries its data in the low
bits of the 32 data bits (log 11). -/
inductive BusAccess where
  | read (width : AccessWidth) (addr : Nat)
  | write (width : AccessWidth) (addr : Nat) (data : Word32)
  deriving DecidableEq, Repr

/-- A move as it reaches the block: an abstract host action, or the bus transaction that stands for one. -/
inductive HostMove where
  | action (h : HostAction)
  | bus (t : BusAccess)
  deriving DecidableEq, Repr

/-- What a host action returns (spec/20_memory.md R50): nothing, a register's 32 bits, or a byte. `half` is returned
only by a 16-bit read of unmapped addresses (R57; log 11). -/
inductive Reply where
  | none
  | word (v : Word32)
  | byte (b : Byte)
  | half (h : Half)
  deriving DecidableEq, Repr

/-- What the hidden sequencer is doing (spec/10_state.md R41). -/
inductive Phase where
  | idle | header | payload | crcCompare | secondPass | commit
  deriving DecidableEq, Repr

/-- The hidden sequencer: a byte index into the span, a 3-bit count of bit-steps done in the current byte, and a
phase (spec/10_state.md R41). -/
structure Sequencer where
  phase : Phase
  byteIndex : Nat
  bitCount : BitVec 3
  deriving DecidableEq, Repr

/-- Idle, all counts zero: between commands and after reset (spec/10_state.md R41, R42). -/
def Sequencer.idle : Sequencer := { phase := .idle, byteIndex := 0, bitCount := 0#3 }

end Sys2Proof.Machine
end

