-- ==== Sys2Proof/Machine/State.lean ====
section
/-! DEFINITION. The whole state of CRC16FC (spec/10_state.md R20, R21, R35, R41), its value after a hardware reset
(R42), and the reasons a step can stop. -/

namespace Sys2Proof.Machine

/-- The bytes of one space written since the last hardware reset, by index. An index that is not listed has not been
written: it holds no byte of its own and reads as the free byte of log 5. -/
abbrev Memory := List Host.Cell

/-- The canonical form: indices strictly rising. What an unlisted index holds, no written byte, is no entry's value,
so no entry repeats it. -/
abbrev Memory.wf (m : Memory) : Prop := m.Pairwise (fun p q => p.1 < q.1)

/-- The state of the block. -/
structure State where
  /-- the parameter RX_CAPACITY (spec/00_scope.md R6); no step changes it (log 1) -/
  config : Config
  /-- the hidden sequencer (spec/10_state.md R41; log 8) -/
  sequencer : Sequencer
  /-- MODEL: how many hardware resets have come; selects the free contents of unwritten bytes (log 5, log 6) -/
  epoch : Nat
  /-- MODEL: the host's moves still to be served, the next one first (log 2) -/
  pending : List HostMove
  /-- MODEL: what the most recent host action returned (log 4) -/
  reply : Reply
  /-- No. 1 STATUS (spec/10_state.md R31) -/
  status : BitVec 8
  /-- No. 2 CFG, one bit, FALLBACK_EN (spec/10_state.md R33) -/
  cfg : BitVec 1
  /-- No. 3 CRC (spec/10_state.md R22) -/
  crc : BitVec 16
  /-- No. 4 REQ_CMD (spec/10_state.md R23) -/
  reqCmd : BitVec 16
  /-- No. 5 REQ_OPID (spec/10_state.md R24) -/
  reqOpid : BitVec 8
  /-- No. 6 REQ_LEN (spec/10_state.md R25) -/
  reqLen : BitVec 8
  /-- No. 7 TX_COUNT (spec/10_state.md R26) -/
  txCount : BitVec 9
  /-- No. 8 RX_COUNT (spec/10_state.md R27) -/
  rxCount : BitVec 16
  /-- No. 9 RSP_CMD (spec/10_state.md R28) -/
  rspCmd : BitVec 16
  /-- No. 10 RSP_OPID (spec/10_state.md R28) -/
  rspOpid : BitVec 8
  /-- No. 11 RSP_LEN (spec/10_state.md R28) -/
  rspLen : BitVec 8
  /-- REQ_PAYLOAD (spec/10_state.md R36) -/
  reqPayload : Memory
  /-- TXBUF (spec/10_state.md R37) -/
  txBuf : Memory
  /-- RXBUF (spec/10_state.md R38) -/
  rxBuf : Memory
  /-- RSP_PAYLOAD (spec/10_state.md R39) -/
  rspPayload : Memory
  deriving DecidableEq, Repr

/-- Reasons for the machine to stop: there are none. A failing command is no stop: it reports a code in STATUS.ERR and
the block goes on (spec/60_exceptions.md R160, R161; log 13). Nobody raises it; safe, since nothing is cut short. -/
inductive Fault where
  deriving DecidableEq, Repr

/-- Reasons to give no meaning. -/
inductive Refusal where
  /-- An instruction without a meaning in `exec`; raised by `exec` only. Safe: a run stops. No arm uses it. -/
  | notModelled (mnemonic : String)
  /-- A bus access narrower than 32 bits that touches the register window; raised by a bus transaction
  (spec/20_memory.md R56; U5: "refuse"). Safe: the run stops. -/
  | registerAccessWidth (addr : Nat)
  /-- A bus access wider than 8 bits that touches a buffer window; raised by a bus transaction
  (spec/20_memory.md R56; U5). Safe: the run stops. -/
  | bufferAccessWidth (addr : Nat)
  /-- A halfword or word access at an address that its size does not divide; raised by a bus transaction
  (spec/20_memory.md R56; U5). Safe: the run stops. -/
  | misaligned (addr : Nat)
  deriving DecidableEq, Repr

/-- The block after a hardware reset (spec/10_state.md R42), nothing in the memories written, and no move of the host
yet to be served. The parameter has its default (spec/00_scope.md R6). -/
def State.reset : State where
  config := Config.default
  sequencer := Sequencer.idle
  epoch := 0
  pending := []
  reply := .none
  status := 0x00#8
  cfg := 1#1
  crc := 0xFFFF#16
  reqCmd := 0x0000#16
  reqOpid := 0x00#8
  reqLen := 0x00#8
  txCount := 0#9
  rxCount := 0x0000#16
  rspCmd := 0x0000#16
  rspOpid := 0x00#8
  rspLen := 0x00#8
  reqPayload := []
  txBuf := []
  rxBuf := []
  rspPayload := []

end Sys2Proof.Machine
end

