-- ==== Sys2Proof/Machine/Flags.lean ====
section
/-! DEFINITION. The fields of STATUS and every rule that writes them (spec/10_state.md R31, R32; spec/60_exceptions.md
R150, R155, R156; spec/42_frame_decode.md R133). -/

namespace Sys2Proof.Machine

/-- The failures of CRC16FC (spec/60_exceptions.md R150). -/
inductive ErrCode where
  | tooShort | badStart | truncated | crcMismatch | illegalCmd | badCount
  deriving DecidableEq, Repr

/-- The code of a failure in STATUS.ERR (spec/60_exceptions.md R150). -/
def ErrCode.code (e : ErrCode) : BitVec 4 :=
  match e with
  | .tooShort => 1#4
  | .badStart => 2#4
  | .truncated => 3#4
  | .crcMismatch => 4#4
  | .illegalCmd => 5#4
  | .badCount => 6#4

/-- STATUS.OK, bit 0 (spec/10_state.md R31). -/
def statusOk (st : BitVec 8) : Bool := st.getLsbD 0

/-- STATUS.RSP_VALID, bit 1 (spec/10_state.md R31). -/
def statusRspValid (st : BitVec 8) : Bool := st.getLsbD 1

/-- STATUS.CRC_PRESENT, bit 2 (spec/10_state.md R31). -/
def statusCrcPresent (st : BitVec 8) : Bool := st.getLsbD 2

/-- STATUS.CRC_DOMAIN, bit 3 (spec/10_state.md R31). -/
def statusCrcDomain (st : BitVec 8) : Bool := st.getLsbD 3

/-- STATUS.ERR, bits 7:4 (spec/10_state.md R31). -/
def statusErr (st : BitVec 8) : BitVec 4 := st.extractLsb' 4 4

/-- STATUS from its five fields, highest first (spec/10_state.md R31). -/
def packStatus (err : BitVec 4) (crcDomain crcPresent rspValid ok : Bool) : BitVec 8 :=
  err ++ BitVec.ofBool crcDomain ++ BitVec.ofBool crcPresent ++ BitVec.ofBool rspValid ++ BitVec.ofBool ok

/-- OK and ERR written together, bits 1 to 3 kept (spec/10_state.md R32 (b), (c)). -/
def statusWithOutcome (st : BitVec 8) (err : BitVec 4) (ok : Bool) : BitVec 8 :=
  packStatus err (statusCrcDomain st) (statusCrcPresent st) (statusRspValid st) ok

/-- STATUS after a successful command other than FRM.DEC, NOP and SRST (spec/10_state.md R32 (b)). -/
def statusSuccess (st : BitVec 8) : BitVec 8 := statusWithOutcome st 0#4 true

/-- STATUS after raise CmdFail(code) (spec/60_exceptions.md R156). -/
def statusCmdFail (st : BitVec 8) (e : ErrCode) : BitVec 8 := statusWithOutcome st e.code false

/-- STATUS after raise DecodeFail(code): every field is written (spec/60_exceptions.md R155). -/
def statusDecodeFail (e : ErrCode) : BitVec 8 := packStatus e.code false (e == .crcMismatch) false false

/-- STATUS after a FRM.DEC that accepts (spec/42_frame_decode.md R124, R133). -/
def statusAccept (present domain : Bool) : BitVec 8 := packStatus 0#4 domain present true true

end Sys2Proof.Machine
end

