-- ==== Sys2Proof/Machine/Frame.lean ====
section
/-! DEFINITION. The frame: its wire form (spec/30_encoding.md R70 to R73), the pure encoder (spec/41_frame_encode.md
R110, R112) and the pure decoder (spec/42_frame_decode.md R120 to R131). -/

namespace Sys2Proof.Machine

/-- `v[7:0]` (spec/41_frame_encode.md R112). -/
def lowByte (v : Half) : Byte := v.extractLsb' 0 8

/-- `v[15:8]` (spec/41_frame_encode.md R112). -/
def highByte (v : Half) : Byte := v.extractLsb' 8 8

/-- Two bytes as a little-endian 16-bit value, the low byte first (spec/30_encoding.md R73). -/
def joinBytes (lo hi : Byte) : Half := lo.setWidth 16 ||| (hi.setWidth 16 <<< 8)

/-- The header, bytes 0 to 7 (spec/30_encoding.md R70). -/
def frameHeader (cmd : Half) (opid len : Byte) : List Byte :=
  [0x55#8, 0x60#8, 0x01#8, lowByte cmd, highByte cmd, len, 0x00#8, opid]

/-- Header and payload, the span of the full-span CRC (spec/41_frame_encode.md R110). `len` is `|P|`; for more than
255 bytes, where the spec does not define the encoder, see log 9. -/
def frameBody (cmd : Half) (opid : Byte) (P : List Byte) : List Byte :=
  frameHeader cmd opid (BitVec.ofNat 8 P.length) ++ P

/-- The two trailing CRC bytes, low byte first (spec/41_frame_encode.md R112). -/
def crcTrailer (c : Half) : List Byte := [lowByte c, highByte c]

/-- `frame_encode` (spec/41_frame_encode.md R110), always with the full-span CRC (spec/30_encoding.md R81). -/
def frameEncode (cmd : Half) (opid : Byte) (P : List Byte) : List Byte :=
  frameBody cmd opid P ++ crcTrailer (crc16 (frameBody cmd opid P))

/-- `B[k]`. Every use is at an index below `|B|`. -/
def byteAt (B : List Byte) (k : Nat) : Byte := B.getD k 0x00#8

/-- `len`, byte 5 (spec/30_encoding.md R73). -/
def frameLen (B : List Byte) : Byte := byteAt B 5

/-- `required = 8 + len`, a natural number (spec/30_encoding.md R73; spec/42_frame_decode.md R135). -/
def frameRequired (B : List Byte) : Nat := headerLength + (frameLen B).toNat

/-- `command`, bytes 3 and 4 (spec/30_encoding.md R73). -/
def frameCommand (B : List Byte) : Half := joinBytes (byteAt B 3) (byteAt B 4)

/-- `opID`, byte 7 (spec/30_encoding.md R73). -/
def frameOpid (B : List Byte) : Byte := byteAt B 7

/-- `B[0 .. required)`: header and payload. -/
def frameSpan (B : List Byte) : List Byte := B.take (frameRequired B)

/-- `payload = B[8 .. required)` (spec/30_encoding.md R73). -/
def framePayload (B : List Byte) : List Byte := (frameSpan B).drop headerLength

/-- `rx_crc`, the two bytes that follow (spec/30_encoding.md R73). -/
def frameRxCrc (B : List Byte) : Half := joinBytes (byteAt B (frameRequired B)) (byteAt B (frameRequired B + 1))

/-- The outcome of `frame_decode` (spec/42_frame_decode.md R120). -/
inductive DecodeResult where
  | accept (cmd : Half) (opid : Byte) (payload : List Byte) (present domain : Bool)
  | reject (code : ErrCode)
  deriving DecidableEq, Repr

/-- The accepting result with the fields of the sequence (spec/42_frame_decode.md R129). -/
def acceptFrame (B : List Byte) (present domain : Bool) : DecodeResult :=
  .accept (frameCommand B) (frameOpid B) (framePayload B) present domain

/-- `frame_decode` (spec/42_frame_decode.md R120): the tests in the rule's order, the first that applies decides.
`fb` is the fallback flag. -/
def frameDecode (B : List Byte) (fb : Bool) : DecodeResult :=
  if B.length < 8 then .reject .tooShort                                         -- R121
  else if byteAt B 0 ≠ 0x55#8 then .reject .badStart                             -- R122
  else if B.length < frameRequired B then .reject .truncated                     -- R123
  else if B.length < frameRequired B + 2 then acceptFrame B false false          -- R128
  else if frameRxCrc B = crc16 (frameSpan B) then acceptFrame B true false       -- R126
  else if fb ∧ frameRxCrc B = crc16 (framePayload B) then acceptFrame B true true -- R127
  else .reject .crcMismatch

/-- The last CRC the decoder computed, none if it computed none (spec/42_frame_decode.md R131). -/
def lastCrc (B : List Byte) (fb : Bool) : Option Half :=
  if B.length < 8 then none
  else if byteAt B 0 ≠ 0x55#8 then none
  else if B.length < frameRequired B then none
  else if B.length < frameRequired B + 2 then none
  else if frameRxCrc B = crc16 (frameSpan B) then some (crc16 (frameSpan B))
  else if fb then some (crc16 (framePayload B))
  else some (crc16 (frameSpan B))

end Sys2Proof.Machine
end

