-- ==== Sys2Proof/Machine/Ops.lean ====
section
/-! DEFINITION. The named operations over memory and registers, and how a command ends: in success, in
raise CmdFail, in raise DecodeFail (spec/60_exceptions.md R155, R156), in a soft or a hardware reset. A failure
is not a trap: nothing is saved and control goes nowhere (R160), so there is no return from one (R161). -/

namespace Sys2Proof.Machine

/-- The byte written at an index, if one was. -/
def Memory.get? (m : Memory) (a : Nat) : Option Byte :=
  match m with
  | [] => none
  | (k, v) :: rest => if k = a then some v else Memory.get? rest a

/-- Write one byte, keeping the indices rising. -/
def Memory.put (m : Memory) (a : Nat) (b : Byte) : Memory :=
  match m with
  | [] => [(a, b)]
  | (k, v) :: rest =>
    if a < k then (a, b) :: (k, v) :: rest
    else if a = k then (a, b) :: rest
    else (k, v) :: Memory.put rest a b

/-- Write consecutive bytes from an index on, in increasing index order. -/
def Memory.putAll (m : Memory) (a : Nat) (bs : List Byte) : Memory :=
  match bs with
  | [] => m
  | b :: rest => Memory.putAll (m.put a b) (a + 1) rest

/-- The number of bytes of a space (spec/10_state.md R35). -/
def spaceSize (c : Config) (S : Space) : Nat :=
  match S with
  | .reqPayload => 255
  | .txBuf => 265
  | .rxBuf => c.rxCapacity
  | .rspPayload => 255

/-- The spaces the host may write (spec/10_state.md R35). -/
def hostWritable (S : Space) : Bool :=
  match S with
  | .reqPayload => true
  | .txBuf => false
  | .rxBuf => true
  | .rspPayload => false

/-- The memory of a space. -/
def State.space (s : State) (S : Space) : Memory :=
  match S with
  | .reqPayload => s.reqPayload
  | .txBuf => s.txBuf
  | .rxBuf => s.rxBuf
  | .rspPayload => s.rspPayload

/-- Put a memory in place of a space's. -/
def State.setSpace (s : State) (S : Space) (m : Memory) : State :=
  match S with
  | .reqPayload => { s with reqPayload := m }
  | .txBuf => { s with txBuf := m }
  | .rxBuf => { s with rxBuf := m }
  | .rspPayload => { s with rspPayload := m }

/-- What an index of a space reads as: the byte written there; the free byte of this reset if none was
(spec/70_reset_and_hazards.md R172; log 5); 0 past the end of the space (spec/20_memory.md R57). -/
def State.readByte (s : State) (S : Space) (a : Nat) : Byte :=
  if a < spaceSize s.config S then ((s.space S).get? a).getD (Config.unwrittenByte s.epoch S a) else 0x00#8

/-- `S[0..n)` as a byte sequence (spec/00_scope.md section 6). -/
def State.firstBytes (s : State) (S : Space) (n : Nat) : List Byte := (List.range n).map (s.readByte S)

/-- Write one byte of a space; past its end nothing happens (spec/20_memory.md R57). -/
def State.writeByte (s : State) (S : Space) (a : Nat) (b : Byte) : State :=
  if a < spaceSize s.config S then s.setSpace S ((s.space S).put a b) else s

/-- `S[i] <- bs[i]` for every `i` below `|bs|`. -/
def State.storeBytes (s : State) (S : Space) (bs : List Byte) : State := s.setSpace S ((s.space S).putAll 0 bs)

/-- `CRC <- v`. -/
def State.setCrc (s : State) (v : Half) : State := { s with crc := v }

/-- `STATUS <- v`. -/
def State.setStatus (s : State) (v : BitVec 8) : State := { s with status := v }

/-- `TX_COUNT <- v`. -/
def State.setTxCount (s : State) (v : BitVec 9) : State := { s with txCount := v }

/-- `RSP_CMD`, `RSP_OPID` and `RSP_LEN` written together (spec/10_state.md R28). -/
def State.setRsp (s : State) (cmd : Half) (opid len : Byte) : State :=
  { s with rspCmd := cmd, rspOpid := opid, rspLen := len }

/-- The hidden sequencer moved (spec/10_state.md R41). -/
def State.setSequencer (s : State) (q : Sequencer) : State := { s with sequencer := q }

/-- What the host action returns. -/
def State.setReply (s : State) (r : Reply) : State := { s with reply := r }

/-- The next move is taken off the host's list; nothing is returned yet. -/
def State.takeMove (s : State) (rest : List HostMove) : State := { s with pending := rest, reply := .none }

/-- The registers at their reset values and the sequencer idle, the memories and all else kept (spec/10_state.md R42,
column "after SRST"). -/
def State.resetRegisters (s : State) : State :=
  { s with
    sequencer := Sequencer.idle
    status := 0x00#8
    cfg := 1#1
    crc := 0xFFFF#16
    reqCmd := 0x0000#16
    reqOpid := 0x00#8
    reqLen := 0x00#8
    txCount := 0#9
    rxCount := 0x0000#16
    rspCmd := 0x0000#16
    rspOpid := 0x00#8
    rspLen := 0x00#8 }

/-- The memories as a hardware reset leaves them: nothing written, new free contents
(spec/70_reset_and_hazards.md R172). -/
def State.clearMemories (s : State) : State :=
  { s with epoch := s.epoch + 1, reqPayload := [], txBuf := [], rxBuf := [], rspPayload := [] }

/-- HardReset (spec/70_reset_and_hazards.md R170; log 7). -/
def State.hardReset (s : State) : State := s.resetRegisters.clearMemories

/-- The end of a command that succeeds: OK <- 1, ERR <- 0 (spec/10_state.md R32 (b)). -/
def State.succeed (s : State) : State := s.setStatus (statusSuccess s.status)

/-- raise CmdFail(code): OK <- 0, ERR <- code, nothing else (spec/60_exceptions.md R156). -/
def State.raiseCmdFail (s : State) (e : ErrCode) : State := s.setStatus (statusCmdFail s.status e)

/-- raise DecodeFail(code): STATUS written whole, nothing else (spec/60_exceptions.md R155). -/
def State.raiseDecodeFail (s : State) (e : ErrCode) : State := s.setStatus (statusDecodeFail e)

/-- The frame put into TXBUF from index 0 on, and its length into TX_COUNT (spec/41_frame_encode.md R111). -/
def State.storeFrame (s : State) (F : List Byte) : State :=
  (s.storeBytes .txBuf F).setTxCount (BitVec.ofNat 9 F.length)

/-- The four parts of a Response written together (spec/42_frame_decode.md R130). -/
def State.commitResponse (s : State) (cmd : Half) (opid : Byte) (P : List Byte) : State :=
  (s.storeBytes .rspPayload P).setRsp cmd opid (BitVec.ofNat 8 P.length)

/-- The number of a register (spec/10_state.md R21). -/
def Reg.number (r : Reg) : Nat :=
  match r with
  | .cmd => 0 | .status => 1 | .cfg => 2 | .crc => 3 | .reqCmd => 4 | .reqOpid => 5
  | .reqLen => 6 | .txCount => 7 | .rxCount => 8 | .rspCmd => 9 | .rspOpid => 10 | .rspLen => 11

/-- The register of a number; 12 and above do not exist (spec/10_state.md R21). -/
def Reg.ofNumber (i : Nat) : Option Reg :=
  match i with
  | 0 => some .cmd | 1 => some .status | 2 => some .cfg | 3 => some .crc | 4 => some .reqCmd | 5 => some .reqOpid
  | 6 => some .reqLen | 7 => some .txCount | 8 => some .rxCount | 9 => some .rspCmd | 10 => some .rspOpid
  | 11 => some .rspLen | _ => none

/-- A register's value, zero-extended to 32 bits; CMD reads 0 (spec/10_state.md R40 (b), (d)). -/
def State.regValue (s : State) (r : Reg) : Word32 :=
  match r with
  | .cmd => 0#32
  | .status => s.status.setWidth 32
  | .cfg => s.cfg.setWidth 32
  | .crc => s.crc.setWidth 32
  | .reqCmd => s.reqCmd.setWidth 32
  | .reqOpid => s.reqOpid.setWidth 32
  | .reqLen => s.reqLen.setWidth 32
  | .txCount => s.txCount.setWidth 32
  | .rxCount => s.rxCount.setWidth 32
  | .rspCmd => s.rspCmd.setWidth 32
  | .rspOpid => s.rspOpid.setWidth 32
  | .rspLen => s.rspLen.setWidth 32

/-- What ReadReg(i) returns; 0 where there is no register (spec/20_memory.md R57). -/
def State.readReg (s : State) (i : Nat) : Word32 :=
  match Reg.ofNumber i with
  | some r => s.regValue r
  | none => 0#32

/-- A host write that is no command: an RW register keeps the low bits, an RO register nothing
(spec/10_state.md R40 (a), (c)); CMD stores nothing (R29). -/
def State.writeRegValue (s : State) (r : Reg) (v : Word32) : State :=
  match r with
  | .cfg => { s with cfg := v.setWidth 1 }
  | .reqCmd => { s with reqCmd := v.setWidth 16 }
  | .reqOpid => { s with reqOpid := v.setWidth 8 }
  | .reqLen => { s with reqLen := v.setWidth 8 }
  | .rxCount => { s with rxCount := v.setWidth 16 }
  | .cmd => s
  | .status => s
  | .crc => s
  | .txCount => s
  | .rspCmd => s
  | .rspOpid => s
  | .rspLen => s

/-- WriteReg(i, v) for `i` that is not CMD's number; nothing where there is no register (spec/20_memory.md R57). -/
def State.writeReg (s : State) (i : Nat) (v : Word32) : State :=
  match Reg.ofNumber i with
  | some r => s.writeRegValue r v
  | none => s

/-- WriteBuf(S, a, b): nothing in a read-only space (spec/20_memory.md R57). -/
def State.hostWriteByte (s : State) (S : Space) (a : Nat) (b : Byte) : State :=
  if hostWritable S then s.writeByte S a b else s

end Sys2Proof.Machine
end

