-- ==== Sys2Proof/Machine/Operands.lean ====
section
/-! DEFINITION. What each command reads (spec/20_memory.md R61). -/

namespace Sys2Proof.Machine

/-- `REQ_PAYLOAD[0 .. REQ_LEN)` (spec/10_state.md R25). -/
def State.requestPayload (s : State) : List Byte := s.firstBytes .reqPayload s.reqLen.toNat

/-- The Request held in the operand registers (spec/41_frame_encode.md R114). -/
def State.request (s : State) : Request :=
  { command := s.reqCmd, operationID := s.reqOpid, payload := s.requestPayload }

/-- Header and payload of the frame that FRM.ENC builds (spec/41_frame_encode.md R111). -/
def State.requestBody (s : State) : List Byte := frameBody s.reqCmd s.reqOpid s.requestPayload

/-- The frame that FRM.ENC builds (spec/41_frame_encode.md R111). -/
def State.requestFrame (s : State) : List Byte := frameEncode s.reqCmd s.reqOpid s.requestPayload

/-- RX_COUNT names bytes that do not exist (spec/60_exceptions.md R153). -/
def State.badCount (s : State) : Bool := decide (s.config.rxCapacity < s.rxCount.toNat)

/-- `RXBUF[0 .. RX_COUNT)`, the received byte sequence (spec/10_state.md R27). -/
def State.received (s : State) : List Byte := s.firstBytes .rxBuf s.rxCount.toNat

/-- CFG.FALLBACK_EN (spec/10_state.md R33). -/
def State.fallbackEn (s : State) : Bool := s.cfg.getLsbD 0

end Sys2Proof.Machine
end

