-- ==== Sys2Proof/Machine/CrcCommands.lean ====
section
/-! DEFINITION. The CRC commands (spec/40_crc.md R97 to R100). -/

namespace Sys2Proof.Machine

/-- CRC.INIT: load the seed (spec/40_crc.md R97). -/
def execCrcInit (s : State) : Host.Outcome State Fault Refusal := .next (s.setCrc crcSeed).succeed

/-- CRC.BYTE imm8: absorb one byte (spec/40_crc.md R98). -/
def execCrcByte (imm8 : Byte) (s : State) : Host.Outcome State Fault Refusal :=
  .next (s.setCrc (crcByte s.crc imm8)).succeed

/-- CRC.CALC: the checksum of the received bytes; BAD_COUNT is tested before any byte is read (spec/40_crc.md R99). -/
def execCrcCalc (s : State) : Host.Outcome State Fault Refusal :=
  if s.badCount then .next (s.raiseCmdFail .badCount) else .next (s.setCrc (crc16 s.received)).succeed

end Sys2Proof.Machine
end

