-- ==== Sys2Proof/Machine/FrameCommands.lean ====
section
/-! DEFINITION. The frame commands FRM.ENC (spec/41_frame_encode.md R111) and FRM.DEC (spec/42_frame_decode.md R124). -/

namespace Sys2Proof.Machine

/-- FRM.ENC: the frame into TXBUF, its length into TX_COUNT, its CRC into CRC (spec/41_frame_encode.md R111, R113). -/
def execFrmEnc (s : State) : Host.Outcome State Fault Refusal :=
  .next ((s.storeFrame s.requestFrame).setCrc (crc16 s.requestBody)).succeed

/-- The CRC register after FRM.DEC: the last value computed, or unchanged (spec/42_frame_decode.md R131). -/
def State.setLastCrc (s : State) : State :=
  match lastCrc s.received s.fallbackEn with
  | some c => s.setCrc c
  | none => s

/-- What FRM.DEC does with the decoder's result: commit (spec/42_frame_decode.md R130) or reject (R132). -/
def State.finishDecode (s : State) (r : DecodeResult) : State :=
  match r with
  | .accept cmd opid P present domain => (s.commitResponse cmd opid P).setStatus (statusAccept present domain)
  | .reject code => s.raiseDecodeFail code

/-- FRM.DEC: decode the received bytes; BAD_COUNT is tested before any byte is read (spec/42_frame_decode.md R124). -/
def execFrmDec (s : State) : Host.Outcome State Fault Refusal :=
  if s.badCount then .next (s.raiseDecodeFail .badCount)
  else .next (s.setLastCrc.finishDecode (frameDecode s.received s.fallbackEn))

end Sys2Proof.Machine
end

