-- ==== Sys2Proof/Machine/SystemCommands.lean ====
section
/-! DEFINITION. The system commands NOP and SRST (spec/43_system.md R140 to R142). -/

namespace Sys2Proof.Machine

/-- NOP: no state changes, STATUS included (spec/43_system.md R141). -/
def execNop (s : State) : Host.Outcome State Fault Refusal := .next s

/-- SRST: the registers to their reset values, the memories kept (spec/43_system.md R142; spec/10_state.md R42). -/
def execSrst (s : State) : Host.Outcome State Fault Refusal := .next s.resetRegisters

end Sys2Proof.Machine
end

