-- ==== Sys2Proof/Machine/Dispatch.lean ====
section
/-! DEFINITION. One arm per command, each a direct call of its meaning (spec/30_encoding.md R78). -/

namespace Sys2Proof.Machine

def exec (i : Instr) (s : State) : Host.Outcome State Fault Refusal :=
  match i with
  | .nop => Sys2Proof.Machine.execNop s
  | .crcInit => Sys2Proof.Machine.execCrcInit s
  | .crcByte imm8 => Sys2Proof.Machine.execCrcByte imm8 s
  | .crcCalc => Sys2Proof.Machine.execCrcCalc s
  | .frmEnc => Sys2Proof.Machine.execFrmEnc s
  | .frmDec => Sys2Proof.Machine.execFrmDec s
  | .srst => Sys2Proof.Machine.execSrst s

end Sys2Proof.Machine
end

