-- ==== Sys2Proof/Machine/HostPort.lean ====
section
/-! DEFINITION. Serving the host: the six host actions (spec/20_memory.md R50), what a bus transaction stands for
(R54 to R57), and one move served whole (R60). -/

namespace Sys2Proof.Machine

/-- A command word that is none of the seven commands: raise CmdFail(ILLEGAL_CMD) (spec/30_encoding.md R79). -/
def illegalCommand (s : State) : Host.Outcome State Fault Refusal := .next (s.raiseCmdFail .illegalCmd)

/-- Issue(w): the engine executes the command to its end (spec/10_state.md R29, spec/20_memory.md R60). -/
def issueCommand (w : Word32) (s : State) : Host.Outcome State Fault Refusal :=
  match decodeCommand w with
  | .ok i => exec i s
  | .error _ => illegalCommand s

/-- One host action (spec/20_memory.md R50). -/
def serveAction (h : HostAction) (s : State) : Host.Outcome State Fault Refusal :=
  match h with
  | .readReg i => .next (s.setReply (.word (s.readReg i)))
  | .writeReg 0 v => issueCommand v s
  | .writeReg (i + 1) v => .next (s.writeReg (i + 1) v)
  | .issue w => issueCommand w s
  | .readBuf S a => .next (s.setReply (.byte (s.readByte S a)))
  | .writeBuf S a b => .next (s.hostWriteByte S a b)
  | .hardReset => .next s.hardReset

/-- The first address of a buffer window (spec/20_memory.md R55). -/
def windowBase (S : Space) : Nat :=
  match S with
  | .reqPayload => 0x00100
  | .txBuf => 0x00200
  | .rspPayload => 0x00400
  | .rxBuf => 0x01000

/-- The number of addresses that belong to a space, its unmapped tail included (spec/20_memory.md R55, R57):
the window of RXBUF is followed by no other. -/
def inSpaceRange (S : Space) (addr : Nat) : Bool :=
  match S with
  | .reqPayload => decide (0x00100 ≤ addr ∧ addr < 0x00200)
  | .txBuf => decide (0x00200 ≤ addr ∧ addr < 0x00400)
  | .rspPayload => decide (0x00400 ≤ addr ∧ addr < 0x00500)
  | .rxBuf => decide (0x01000 ≤ addr)

/-- The space whose range an address lies in. -/
def spaceAt (addr : Nat) : Option Space :=
  if inSpaceRange .reqPayload addr then some .reqPayload
  else if inSpaceRange .txBuf addr then some .txBuf
  else if inSpaceRange .rspPayload addr then some .rspPayload
  else if inSpaceRange .rxBuf addr then some .rxBuf
  else none

/-- The address is one of a register's four bytes (spec/20_memory.md R55). -/
def inRegisterWindow (addr : Nat) : Bool := decide (addr < 4 * 12)

/-- The address is a byte of a buffer (spec/20_memory.md R55). -/
def inBufferWindow (c : Config) (addr : Nat) : Bool :=
  match spaceAt addr with
  | some S => decide (addr - windowBase S < spaceSize c S)
  | none => false

/-- The bytes an access of a width touches. -/
def AccessWidth.bytes (w : AccessWidth) : Nat :=
  match w with
  | .byte => 1
  | .half => 2
  | .word => 4

/-- Some byte that an access touches satisfies a test. -/
def touches (w : AccessWidth) (addr : Nat) (test : Nat → Bool) : Bool :=
  (List.range w.bytes).any (fun k => test (addr + k))

/-- What a bus access at an address reaches. -/
inductive BusTarget where
  | reg (i : Nat)
  | buf (S : Space) (a : Nat)
  | unmapped
  | unsupported (r : Refusal)
  deriving DecidableEq, Repr

/-- The target of a bus access (spec/20_memory.md R55 to R57). A 32-bit access below 0x100 reaches the register numbers
0 to 63, an 8-bit access in a space's range its index; what is neither aligned nor of its window's width is not
supported (R56; log 11); all else is unmapped (R57). -/
def busTarget (c : Config) (w : AccessWidth) (addr : Nat) : BusTarget :=
  if addr % w.bytes ≠ 0 then .unsupported (.misaligned addr)
  else if w = .word ∧ addr < 0x100 then .reg (addr / 4)
  else if touches w addr inRegisterWindow then .unsupported (.registerAccessWidth addr)
  else if w = .byte then
    match spaceAt addr with
    | some S => .buf S (addr - windowBase S)
    | none => .unmapped
  else if touches w addr (inBufferWindow c) then .unsupported (.bufferAccessWidth addr)
  else .unmapped

/-- What a read of unmapped addresses returns: 0 (spec/20_memory.md R57). -/
def zeroReply (w : AccessWidth) : Reply :=
  match w with
  | .byte => .byte 0#8
  | .half => .half 0#16
  | .word => .word 0#32

/-- A bus transaction: the host action it stands for, nothing on unmapped addresses, or a refusal
(spec/20_memory.md R55 to R57). -/
def serveBus (t : BusAccess) (s : State) : Host.Outcome State Fault Refusal :=
  match t with
  | .read w addr =>
    match busTarget s.config w addr with
    | .reg i => serveAction (.readReg i) s
    | .buf S a => serveAction (.readBuf S a) s
    | .unmapped => .next (s.setReply (zeroReply w))
    | .unsupported r => .refused r
  | .write w addr data =>
    match busTarget s.config w addr with
    | .reg i => serveAction (.writeReg i data) s
    | .buf S a => serveAction (.writeBuf S a (data.setWidth 8)) s
    | .unmapped => .next s
    | .unsupported r => .refused r

/-- One move of the host, served to its end (spec/20_memory.md R60). -/
def serveMove (m : HostMove) (s : State) : Host.Outcome State Fault Refusal :=
  match m with
  | .action h => serveAction h s
  | .bus t => serveBus t s

/-- One step: the next pending move is taken off the list and served; with none pending the block is idle and holds
its state (spec/60_exceptions.md R164; log 2, log 3). -/
def serveNext (s : State) : Host.Outcome State Fault Refusal :=
  match s.pending with
  | [] => .next s
  | m :: rest => serveMove m (s.takeMove rest)

end Sys2Proof.Machine
end

