-- ==== Sys2Proof/Machine/Step.lean ====
section
/-! DEFINITION. One step of the machine, and how a word is put where the next step takes it. -/

namespace Sys2Proof.Machine

/-- One step (spec/00_scope.md R8): the host's next move, served whole. -/
def step (s : State) : Host.Outcome State Fault Refusal := serveNext s

/-- The state in which the host's next move issues the command word whose `nbits` low bits are `w`, the bits above
them 0 (log 10). -/
def State.withFetchWord (s : State) (nbits w : Nat) : State :=
  { s with pending := .action (.issue (BitVec.ofNat 32 (w % 2 ^ nbits))) :: s.pending }

end Sys2Proof.Machine
end

