-- ==== Sys2Proof/Machine/Script.lean ====
section
/-! DEFINITION. The host script (spec/30_encoding.md R84, R85): its lines as host actions, its pseudo-instructions as
lists of them. `loopback` and the `expect` lines depend on what is read, so they take the state they are used in. -/

namespace Sys2Proof.Machine

/-- `wr REG, v` (spec/30_encoding.md R84). -/
def scriptWr (r : Reg) (v : Word32) : HostAction := .writeReg r.number v

/-- `rd REG` (spec/30_encoding.md R84). -/
def scriptRd (r : Reg) : HostAction := .readReg r.number

/-- `wb S[a], b` (spec/30_encoding.md R84). -/
def scriptWb (S : Space) (a : Nat) (b : Byte) : HostAction := .writeBuf S a b

/-- `rb S[a]` (spec/30_encoding.md R84). -/
def scriptRb (S : Space) (a : Nat) : HostAction := .readBuf S a

/-- A line that is a command's mnemonic (spec/30_encoding.md R84). -/
def scriptCommand (i : Instr) : HostAction := .issue (encodeCommand i)

/-- The lines `wb S[a], b0`, `wb S[a+1], b1`, and so on. -/
def scriptLdFrom (S : Space) (a : Nat) (bs : List Byte) : List HostAction :=
  match bs with
  | [] => []
  | b :: rest => scriptWb S a b :: scriptLdFrom S (a + 1) rest

/-- `ld S, b0 b1 ... bk` (spec/30_encoding.md R85). -/
def scriptLd (S : Space) (bs : List Byte) : List HostAction := scriptLdFrom S 0 bs

/-- `ld.rx b0 ... bk` (spec/30_encoding.md R85). -/
def scriptLdRx (bs : List Byte) : List HostAction := scriptLd .rxBuf bs ++ [scriptWr .rxCount (BitVec.ofNat 32 bs.length)]

/-- `ld.req cmd, opid, b0 ... bk` (spec/30_encoding.md R85). -/
def scriptLdReq (cmd : Half) (opid : Byte) (bs : List Byte) : List HostAction :=
  [scriptWr .reqCmd (cmd.setWidth 32), scriptWr .reqOpid (opid.setWidth 32)] ++ scriptLd .reqPayload bs
    ++ [scriptWr .reqLen (BitVec.ofNat 32 bs.length)]

/-- `crc.stream b0 ... bk` (spec/30_encoding.md R85). -/
def scriptCrcStream (bs : List Byte) : List HostAction :=
  scriptCommand .crcInit :: bs.map (fun b => scriptCommand (.crcByte b))

/-- The copy part of `loopback` from index `a` on, of what TXBUF holds in `s`: `rb TXBUF[a]`, `wb RXBUF[a]`
(spec/30_encoding.md R85). -/
def scriptCopyFrom (a : Nat) (bs : List Byte) : List HostAction :=
  match bs with
  | [] => []
  | b :: rest => scriptRb .txBuf a :: scriptWb .rxBuf a b :: scriptCopyFrom (a + 1) rest

/-- `loopback`, with the values that the reads return in `s` (spec/30_encoding.md R85). -/
def scriptLoopback (s : State) : List HostAction :=
  scriptCopyFrom 0 (s.firstBytes .txBuf s.txCount.toNat)
    ++ [scriptRd .txCount, scriptWr .rxCount (s.readReg Reg.txCount.number)]

/-- `expect.tx b0 ... bk`: what the reads return in `s` (spec/30_encoding.md R85). -/
def scriptExpectTx (s : State) (bs : List Byte) : Bool :=
  s.readReg Reg.txCount.number == BitVec.ofNat 32 bs.length && s.firstBytes .txBuf bs.length == bs

/-- `expect.rsp cmd, opid, b0 ... bk`: what the reads return in `s` (spec/30_encoding.md R85). -/
def scriptExpectRsp (s : State) (cmd : Half) (opid : Byte) (bs : List Byte) : Bool :=
  statusRspValid s.status && s.readReg Reg.rspCmd.number == cmd.setWidth 32
    && s.readReg Reg.rspOpid.number == opid.setWidth 32
    && s.readReg Reg.rspLen.number == BitVec.ofNat 32 bs.length && s.firstBytes .rspPayload bs.length == bs

/-- A script put before the moves still pending. -/
def State.withScript (s : State) (script : List HostAction) : State :=
  { s with pending := script.map HostMove.action ++ s.pending }

end Sys2Proof.Machine
end

