-- ==== Sys2Proof/Machine/Serial.lean ====
section
/-! DEFINITION. The bit-serial engine inside a command (spec/40_crc.md R93, spec/10_state.md R41) and the number of
bit-steps a command takes (spec/70_reset_and_hazards.md R183). No command's meaning is defined by it: a command is
one step (spec/20_memory.md R60). -/

namespace Sys2Proof.Machine

/-- The engine set to run over a span in a phase; over no bytes it is done at once. -/
def State.serialStart (s : State) (ph : Phase) (span : List Byte) : State :=
  if span = [] then s.setSequencer Sequencer.idle
  else s.setSequencer { phase := ph, byteIndex := 0, bitCount := 0#3 }

/-- Where the sequencer stands after one more bit-step over a span of a length. -/
def Sequencer.next (q : Sequencer) (spanLength : Nat) : Sequencer :=
  if q.bitCount = 7#3 then
    if q.byteIndex + 1 < spanLength then { q with byteIndex := q.byteIndex + 1, bitCount := 0#3 } else Sequencer.idle
  else { q with bitCount := q.bitCount + 1#3 }

/-- One internal step: the byte is XORed in before its first bit-step, then one bit-step (spec/40_crc.md R93). An idle
engine does nothing. -/
def State.serialTick (s : State) (span : List Byte) : State :=
  if s.sequencer.phase = .idle then s
  else
    let c := if s.sequencer.bitCount = 0#3 then s.crc ^^^ (byteAt span s.sequencer.byteIndex).setWidth 16 else s.crc
    (s.setCrc (crcBit c)).setSequencer (s.sequencer.next span.length)

/-- `k` internal steps. -/
def State.serialRun (s : State) (span : List Byte) (k : Nat) : State :=
  match k with
  | 0 => s
  | k + 1 => (s.serialTick span).serialRun span k

/-- How many internal steps the engine takes until it is idle, up to a bound: each is one application of `crcBit`
(spec/70_reset_and_hazards.md R183). -/
def State.serialCount (s : State) (span : List Byte) (bound : Nat) : Nat :=
  match bound with
  | 0 => 0
  | k + 1 => if s.sequencer.phase = .idle then 0 else 1 + (s.serialTick span).serialCount span k

/-- One run of the engine inside a command: the value that CRC starts from, and the span (spec/10_state.md R41). -/
structure SerialPass where
  phase : Phase
  start : Half
  span : List Byte
  deriving DecidableEq, Repr

/-- The engine set to a pass. -/
def State.passStart (s : State) (p : SerialPass) : State := (s.setCrc p.start).serialStart p.phase p.span

/-- The bit-steps of a pass, counted by running the engine until it is idle. The bound is one above eight per byte: the
engine stops of itself. -/
def State.passBitSteps (s : State) (p : SerialPass) : Nat := (s.passStart p).serialCount p.span (8 * p.span.length + 1)

/-- The engine run over a pass. -/
def State.runPass (s : State) (p : SerialPass) : State := (s.passStart p).serialRun p.span (s.passBitSteps p)

/-- The engine run over passes, one after another. -/
def State.runPasses (s : State) (ps : List SerialPass) : State := ps.foldl State.runPass s

/-- The passes of FRM.DEC on a byte sequence: none where no CRC is computed, the full span, and the payload where the
full span does not match and the fallback is on (spec/42_frame_decode.md R126, R127). -/
def decodePasses (B : List Byte) (fb : Bool) : List SerialPass :=
  if lastCrc B fb = none then []
  else
    { phase := .header, start := crcSeed, span := frameSpan B }
      :: if frameRxCrc B ≠ crc16 (frameSpan B) ∧ fb
        then [{ phase := .secondPass, start := crcSeed, span := framePayload B }] else []

/-- The passes of the engine inside a command (spec/20_memory.md R61; spec/40_crc.md R93). The commands without a pass
load CRC or leave it. -/
def commandPasses (i : Instr) (s : State) : List SerialPass :=
  match i with
  | .nop => []
  | .crcInit => []
  | .crcByte imm8 => [{ phase := .payload, start := s.crc, span := [imm8] }]
  | .crcCalc => if s.badCount then [] else [{ phase := .payload, start := crcSeed, span := s.received }]
  | .frmEnc => [{ phase := .header, start := crcSeed, span := s.requestBody }]
  | .frmDec => if s.badCount then [] else decodePasses s.received s.fallbackEn
  | .srst => []

/-- The passes of the engine for a value written to CMD; an illegal word has none (spec/30_encoding.md R79). -/
def issuedPasses (w : Word32) (s : State) : List SerialPass :=
  match decodeCommand w with
  | .ok i => commandPasses i s
  | .error _ => []

/-- The number of bit-steps for a value written to CMD, counted on the engine (spec/70_reset_and_hazards.md R183). -/
def issuedBitSteps (w : Word32) (s : State) : Nat := ((issuedPasses w s).map s.passBitSteps).sum

/-- The number of bit-steps a command takes, counted on the engine (spec/70_reset_and_hazards.md R183). -/
def commandBitSteps (i : Instr) (s : State) : Nat := ((commandPasses i s).map s.passBitSteps).sum

end Sys2Proof.Machine
end

