-- ==== Sys2Proof/Safety.lean ====
section
/-! DEFINITION. What is true of the block between any two host actions: the invariants that the spec's rules give its
state, and what it means that a step goes on. -/

namespace Sys2Proof.Safety

open Sys2Proof.Machine

/-- The STATUS discipline (spec/10_state.md R31, R32; spec/42_frame_decode.md R133): a code is at most 6; OK implies
code 0; code 0 without OK is the reset value; CRC_DOMAIN only beside RSP_VALID and CRC_PRESENT; a code that only
FRM.DEC gives stands with the bits FRM.DEC writes. -/
abbrev StatusLegal (st : BitVec 8) : Prop :=
  (statusErr st).toNat ≤ 6
    ∧ (statusOk st = true → statusErr st = 0#4)
    ∧ (statusErr st = 0#4 → statusOk st = true ∨ st = 0x00#8)
    ∧ (statusCrcDomain st = true → statusRspValid st = true ∧ statusCrcPresent st = true)
    ∧ (1 ≤ (statusErr st).toNat ∧ (statusErr st).toNat ≤ 3 → statusRspValid st = false ∧ statusCrcPresent st = false)
    ∧ (statusErr st = 4#4 → statusRspValid st = false ∧ statusCrcPresent st = true)

/-- OK and ERR agree: OK implies code 0, and code 0 implies OK but in the value that a reset leaves
(spec/10_state.md R32). -/
abbrev OkErrAgree (s : State) : Prop :=
  (statusOk s.status = true → statusErr s.status = 0#4)
    ∧ (statusErr s.status = 0#4 → statusOk s.status = true ∨ s.status = 0x00#8)

/-- TX_COUNT is 0 or 10 to 265 (spec/10_state.md R26). -/
abbrev TxCountLegal (s : State) : Prop := s.txCount = 0#9 ∨ (10 ≤ s.txCount.toNat ∧ s.txCount.toNat ≤ 265)

/-- The four memories are in canonical form. -/
abbrev MemoriesCanonical (s : State) : Prop :=
  s.reqPayload.wf ∧ s.txBuf.wf ∧ s.rxBuf.wf ∧ s.rspPayload.wf

/-- A memory lists no index past the end of its space (spec/10_state.md R35). -/
abbrev MemoryWithin (size : Nat) (m : Memory) : Prop := ∀ p ∈ m, p.1 < size

/-- No memory lists an index past the end of its space (spec/10_state.md R35). -/
abbrev MemoriesWithin (s : State) : Prop :=
  MemoryWithin 255 s.reqPayload ∧ MemoryWithin 265 s.txBuf ∧ MemoryWithin s.config.rxCapacity s.rxBuf
    ∧ MemoryWithin 255 s.rspPayload

/-- The Response registers describe a payload that FRM.DEC has stored whole (spec/10_state.md R28). -/
abbrev ResponseHeld (s : State) : Prop := ∀ a < s.rspLen.toNat, (s.rspPayload.get? a).isSome = true

/-- TXBUF holds a frame of TX_COUNT bytes, the encoding of some Request, once TX_COUNT is not 0
(spec/10_state.md R26). -/
def TxHoldsFrame (s : State) : Prop :=
  s.txCount = 0#9 ∨ ∃ r : Request, r.wellFormed = true
    ∧ s.firstBytes .txBuf s.txCount.toNat = frameEncode r.command r.operationID r.payload

/-- The invariant of the block between two host actions. -/
structure Inv (s : State) : Prop where
  configLegal : s.config.legal
  sequencerIdle : s.sequencer = Sequencer.idle
  statusLegal : StatusLegal s.status
  txCountLegal : TxCountLegal s
  memoriesCanonical : MemoriesCanonical s
  memoriesWithin : MemoriesWithin s
  responseHeld : ResponseHeld s

/-- The next move is one of the six host actions, or there is none (spec/20_memory.md R50). -/
def NextIsAction (s : State) : Prop := ∀ t rest, s.pending ≠ .bus t :: rest

/-- Everything that is neither a register nor a memory is kept. -/
structure SameSurroundings (s t : State) : Prop where
  config : t.config = s.config
  sequencer : t.sequencer = s.sequencer
  epoch : t.epoch = s.epoch
  pending : t.pending = s.pending
  reply : t.reply = s.reply

/-- The registers that the host writes are kept: CFG, REQ_CMD, REQ_OPID, REQ_LEN, RX_COUNT. -/
structure SameHostRegisters (s t : State) : Prop where
  cfg : t.cfg = s.cfg
  reqCmd : t.reqCmd = s.reqCmd
  reqOpid : t.reqOpid = s.reqOpid
  reqLen : t.reqLen = s.reqLen
  rxCount : t.rxCount = s.rxCount

/-- The Response registers are kept: RSP_CMD, RSP_OPID, RSP_LEN. -/
structure SameResponse (s t : State) : Prop where
  rspCmd : t.rspCmd = s.rspCmd
  rspOpid : t.rspOpid = s.rspOpid
  rspLen : t.rspLen = s.rspLen

/-- Every byte of every space reads as before. -/
def SameBytes (s t : State) : Prop := ∀ S a, t.readByte S a = s.readByte S a

/-- Every byte reads as before but those of one space below a bound. -/
def SameBytesBut (S : Space) (n : Nat) (s t : State) : Prop :=
  ∀ T a, ¬ (T = S ∧ a < n) → t.readByte T a = s.readByte T a

/-- STATUS bits 1 to 3 are kept (spec/10_state.md R32 (c)). -/
structure SameDecodeBits (s t : State) : Prop where
  rspValid : statusRspValid t.status = statusRspValid s.status
  crcPresent : statusCrcPresent t.status = statusCrcPresent s.status
  crcDomain : statusCrcDomain t.status = statusCrcDomain s.status

/-- OK and ERR report an outcome, bits 1 to 3 of STATUS are kept (spec/10_state.md R32). -/
structure Reports (ok : Bool) (err : BitVec 4) (s t : State) : Prop where
  ok : statusOk t.status = ok
  err : statusErr t.status = err
  bits : SameDecodeBits s t

/-- The declared payload length of what RXBUF holds, byte 5 (spec/42_frame_decode.md R120). -/
def rxLen (s : State) : Nat := (s.readByte .rxBuf 5).toNat

/-- The two bytes after header and payload, the second one the more significant (spec/20_memory.md R51). -/
def rxTrailer (s : State) : Half := s.readByte .rxBuf (9 + rxLen s) ++ s.readByte .rxBuf (8 + rxLen s)

/-- The payload of what RXBUF holds: `len` bytes from offset 8 (spec/42_frame_decode.md R129). -/
def rxPayload (s : State) : List Byte := (List.range (rxLen s)).map (fun k => s.readByte .rxBuf (8 + k))

/-- The full-span CRC of what RXBUF holds (spec/42_frame_decode.md R126). -/
def rxFullCrc (s : State) : Half := crc16 (s.firstBytes .rxBuf (8 + rxLen s))

/-- The payload-only CRC of what RXBUF holds (spec/42_frame_decode.md R127). -/
def rxPayloadCrc (s : State) : Half := crc16 (rxPayload s)

/-- The outcomes of FRM.DEC, the rows of spec/42_frame_decode.md R133. -/
inductive DecodePath where
  | badCount | tooShort | badStart | truncated | noCrc | fullSpan | payloadOnly | mismatch
  deriving DecidableEq, Repr

/-- Which outcome FRM.DEC has, read off the bytes of RXBUF in the priority of spec/60_exceptions.md R159. -/
def decodePath (s : State) : DecodePath :=
  if s.config.rxCapacity < s.rxCount.toNat then .badCount
  else if s.rxCount.toNat < 8 then .tooShort
  else if s.readByte .rxBuf 0 ≠ 0x55#8 then .badStart
  else if s.rxCount.toNat < 8 + rxLen s then .truncated
  else if s.rxCount.toNat < 10 + rxLen s then .noCrc
  else if rxTrailer s = rxFullCrc s then .fullSpan
  else if s.cfg = 1#1 ∧ rxTrailer s = rxPayloadCrc s then .payloadOnly
  else .mismatch

/-- FRM.DEC accepts on this outcome. -/
def DecodePath.accepts (p : DecodePath) : Bool :=
  match p with
  | .noCrc => true
  | .fullSpan => true
  | .payloadOnly => true
  | .badCount => false
  | .tooShort => false
  | .badStart => false
  | .truncated => false
  | .mismatch => false

/-- STATUS after FRM.DEC (spec/42_frame_decode.md R133, last column). -/
def DecodePath.status (p : DecodePath) : BitVec 8 :=
  match p with
  | .noCrc => 0x03#8
  | .fullSpan => 0x07#8
  | .payloadOnly => 0x0F#8
  | .tooShort => 0x10#8
  | .badStart => 0x20#8
  | .truncated => 0x30#8
  | .mismatch => 0x44#8
  | .badCount => 0x60#8

/-- CRC after FRM.DEC (spec/42_frame_decode.md R131). -/
def decodeCrc (s : State) : Half :=
  match decodePath s with
  | .badCount => s.crc
  | .tooShort => s.crc
  | .badStart => s.crc
  | .truncated => s.crc
  | .noCrc => s.crc
  | .fullSpan => rxFullCrc s
  | .payloadOnly => rxPayloadCrc s
  | .mismatch => if s.cfg = 1#1 then rxPayloadCrc s else rxFullCrc s

/-- The engine, set in any state and any phase but idle to run over a span from a value, is busy for exactly `n`
bit-steps and then is idle with a result in CRC and nothing else changed (spec/40_crc.md R93). -/
def EngineComputes (start : Half) (span : List Byte) (n : Nat) (result : Half) : Prop :=
  ∀ (s : State) (ph : Phase), ph ≠ .idle →
    ((s.setCrc start).serialStart ph span).serialRun span n = { s with crc := result, sequencer := Sequencer.idle }
    ∧ ∀ k < n, (((s.setCrc start).serialStart ph span).serialRun span k).sequencer.phase ≠ .idle

/-- Commands issued one after another. -/
def runCommands (is : List Instr) (s : State) : Host.Outcome State Fault Refusal :=
  match is with
  | [] => .next s
  | i :: rest =>
    match exec i s with
    | .next t => runCommands rest t
    | .fault f => .fault f
    | .refused r => .refused r

/-- A bus address at which nothing is mapped (spec/20_memory.md R55, R57). -/
def BusUnmapped (s : State) (addr : Nat) : Prop :=
  (0x00030 ≤ addr ∧ addr < 0x00100) ∨ addr = 0x001FF ∨ (0x00309 ≤ addr ∧ addr < 0x00400)
    ∨ (0x004FF ≤ addr ∧ addr < 0x01000) ∨ 0x01000 + s.config.rxCapacity ≤ addr

/-- A bus address inside one of the four buffer windows (spec/20_memory.md R55). -/
def BusBuffer (s : State) (addr : Nat) : Prop :=
  (0x00100 ≤ addr ∧ addr < 0x001FF) ∨ (0x00200 ≤ addr ∧ addr < 0x00309) ∨ (0x00400 ≤ addr ∧ addr < 0x004FF)
    ∨ (0x01000 ≤ addr ∧ addr < 0x01000 + s.config.rxCapacity)

end Sys2Proof.Safety
end

