-- ==== Sys2Proof/Certificates/Slice0/Obligations.lean ====
section
/-! DEFINITION. The statements about CRC16FC, from the numbered rules of spec/. Every statement about a state is for
every value of RX_CAPACITY, of the free bytes of log 5 and of the model's own fields, unless it says which. -/

open Sys2Proof Sys2Proof.Machine Sys2Proof.Safety

/-! ## Command words -/

/-- R76, R78: the word of every command decodes to it, and a word that decodes is the word of its command: no bit of the
word is dropped. -/
def Obligations.DecodeEncodeAgree : Prop :=
  (∀ i : Instr, i.wellFormed = true → decode (encode i) = .ok i) ∧ (∀ (w : Half) (i : Instr), decode w = .ok i → encode i = w)

/-- R78: words written out from the encoding column decode to the commands they stand for. -/
def Obligations.WrittenWordsDecode : Prop :=
  decode 0b0000000000000000#16 = .ok .nop ∧ decode 0b0000000000000001#16 = .ok .crcInit
    ∧ decode 0b0101010100000010#16 = .ok (.crcByte 0x55#8) ∧ decode 0b0000000000000011#16 = .ok .crcCalc
    ∧ decode 0b0000000000000100#16 = .ok .frmEnc ∧ decode 0b0000000000000101#16 = .ok .frmDec
    ∧ decode 0b0000000011111111#16 = .ok .srst

/-- R78: the match and mask pairs are disjoint, so at most one row matches a word. -/
def Obligations.OpcodeRowsDisjoint : Prop :=
  opcodeMap.Pairwise (fun p q => ∀ w : Half, ¬ (p.covers w = true ∧ q.covers w = true))

/-- R79: a word is illegal exactly on the grounds (a) and (b); issued, it reports ILLEGAL_CMD and changes nothing else;
262 words are legal and 65274 are not. -/
def Obligations.IllegalWordsReportAndChangeNothingElse : Prop :=
  (∀ w : Half, (∀ i, decode w ≠ .ok i) ↔
      (w.extractLsb' 0 8 ∉ [0x00#8, 0x01#8, 0x02#8, 0x03#8, 0x04#8, 0x05#8, 0xFF#8]
        ∨ (w.extractLsb' 0 8 ≠ 0x02#8 ∧ w.extractLsb' 8 8 ≠ 0x00#8)))
  ∧ (∀ (v : Word32) (s : State), (∀ i, decode (v.setWidth 16) ≠ .ok i) →
      ∃ t, serveAction (.issue v) s = .next t ∧ t = { s with status := t.status } ∧ Reports false 5#4 s t)
  ∧ (∃ legal : List Half, legal.Nodup ∧ legal.length = 262 ∧ ∀ w, w ∈ legal ↔ ∃ i, decode w = .ok i)
  ∧ (∃ illegal : List Half, illegal.Nodup ∧ illegal.length = 65274 ∧ ∀ w, w ∈ illegal ↔ ∀ i, decode w ≠ .ok i)

/-- R76: bits 31:16 of the value written to CMD are ignored; whatever they are, the word of a command runs it. -/
def Obligations.IssueIgnoresHighHalf : Prop :=
  ∀ (hi : Half) (i : Instr) (s : State), serveAction (.issue (hi ++ encode i)) s = exec i s

/-! ## The CRC functions -/

/-- R90, R91, R92: the bit-step tests the low bit, shifts and then XORs; the byte-step is eight of them after the XOR of
the byte; the checksum starts from the seed and takes the bytes in order. With the rules' examples. -/
def Obligations.CrcFunctionsFollowTheirRules : Prop :=
  (∀ c : Half, crcBit c = if c.getLsbD 0 = true then (c >>> 1) ^^^ 0xA001#16 else c >>> 1)
  ∧ (∀ c : Half, (c >>> 1).getLsbD 15 = false)
  ∧ [0x0000#16, 0x0001#16, 0x0002#16, 0x8000#16, 0xFFFF#16, 0xA001#16].map crcBit
      = [0x0000#16, 0xA001#16, 0x0001#16, 0x4000#16, 0xDFFE#16, 0xF001#16]
  ∧ (∀ (c : Half) (b : Byte), crcByte c b = crcBit^[8] (c ^^^ b.setWidth 16))
  ∧ (∀ (c : Half) (b : Byte) (k : Nat), 8 ≤ k → (c ^^^ b.setWidth 16).getLsbD k = c.getLsbD k)
  ∧ (List.range 9).map (fun k => crcBit^[k] (0xFFFF#16 ^^^ (0x55#8).setWidth 16))
      = [0xFFAA#16, 0x7FD5#16, 0x9FEB#16, 0xEFF4#16, 0x77FA#16, 0x3BFD#16, 0xBDFF#16, 0xFEFE#16, 0x7F7F#16]
  ∧ crcByte 0xFFFF#16 0x55#8 = 0x7F7F#16
  ∧ crc16 [] = 0xFFFF#16
  ∧ (∀ (B : List Byte) (b : Byte), crc16 (B ++ [b]) = crcByte (crc16 B) b)
  ∧ (∀ B : List Byte, crc16 B = crcFrom 0xFFFF#16 B)
  ∧ (∀ (c : Half) (X Y : List Byte), crcFrom c (X ++ Y) = crcFrom (crcFrom c X) Y)

/-- R95 (a), (b): the bit-step is a bijection, bit 15 of its result says that the XOR was applied; the byte-step is a
bijection in the running value and injective in the byte. -/
def Obligations.CrcStepsAreBijections : Prop :=
  Function.Bijective crcBit ∧ (∀ c : Half, (crcBit c).getLsbD 15 = c.getLsbD 0)
    ∧ (∀ b : Byte, Function.Bijective (fun c => crcByte c b)) ∧ (∀ c : Half, Function.Injective (crcByte c))

/-- R95 (c): two byte sequences of one length that differ in exactly one byte have different checksums. -/
def Obligations.CrcDetectsOneChangedByte : Prop :=
  ∀ (X Y : List Byte) (b b' : Byte), b ≠ b' → crc16 (X ++ b :: Y) ≠ crc16 (X ++ b' :: Y)

/-- R95 (d): linearity of the bit-step, and the byte-step as an XOR of two. -/
def Obligations.CrcStepsAreLinear : Prop :=
  (∀ x y : Half, crcBit (x ^^^ y) = crcBit x ^^^ crcBit y)
    ∧ (∀ (c : Half) (b : Byte), crcByte c b = crcByte c 0#8 ^^^ crcByte 0#16 b)

/-- R95 (e): a message followed by its own checksum, low byte first, has checksum 0. -/
def Obligations.CrcResidueIsZero : Prop :=
  ∀ M : List Byte, crc16 (M ++ [(crc16 M).extractLsb' 0 8, (crc16 M).extractLsb' 8 8]) = 0x0000#16

/-- R93, R41: the bit-serial engine, set to run over a span in a phase that is not idle, is at byte `k / 8` and bit-step
`k % 8` after `k` internal steps, for every `k` below eight per byte, and after eight per byte it is idle with
`crc_from(CRC, span)` in CRC and nothing else changed. That one phase stands during the whole span is the model's choice (log 8). -/
def Obligations.SerialEngineRefinesByteSteps : Prop :=
  ∀ (s : State) (ph : Phase) (span : List Byte), ph ≠ .idle →
    (s.serialStart ph span).serialRun span (8 * span.length)
        = { s with crc := crcFrom s.crc span, sequencer := Sequencer.idle }
    ∧ ∀ k < 8 * span.length, ((s.serialStart ph span).serialRun span k).sequencer
        = { phase := ph, byteIndex := k / 8, bitCount := BitVec.ofNat 3 (k % 8) }

/-! ## The commands -/

/-- R141: NOP completes and changes no state; its word is 0x0000, and the same opcode with an `imm8` that is not 0 is no
command. -/
def Obligations.NopChangesNothing : Prop :=
  (∀ s : State, exec .nop s = .next s) ∧ encode .nop = 0x0000#16
    ∧ (∀ (imm8 : Byte) (i : Instr), imm8 ≠ 0x00#8 → decode (imm8 ++ 0x00#8) ≠ .ok i)

/-- R97: CRC.INIT, word 0x0001, completes, puts the seed into CRC, reports success and changes nothing else; twice is
the same as once. -/
def Obligations.CrcInitLoadsSeed : Prop :=
  (∀ s : State, ∃ t, exec .crcInit s = .next t ∧ t = { s with crc := 0xFFFF#16, status := t.status }
    ∧ Reports true 0#4 s t ∧ SameBytes s t ∧ exec .crcInit t = .next t)
  ∧ encode .crcInit = 0x0001#16

/-- R98: CRC.BYTE completes for every byte, from whatever CRC holds, puts the byte-step into CRC, reports success and
changes nothing else; its word is the byte above 0x02. With the rule's examples. -/
def Obligations.CrcByteAbsorbsOneByte : Prop :=
  (∀ (b : Byte) (s : State), ∃ t, exec (.crcByte b) s = .next t
      ∧ t = { s with crc := crcByte s.crc b, status := t.status } ∧ Reports true 0#4 s t ∧ SameBytes s t)
  ∧ (∀ b : Byte, encode (.crcByte b) = ((b.setWidth 16) <<< 8) ||| 0x0002#16)
  ∧ crcByte 0xFFFF#16 0x00#8 = 0x40BF#16 ∧ crcByte 0x0000#16 0x00#8 = 0x0000#16
  ∧ crcByte 0xFFFF#16 0x55#8 = 0x7F7F#16

/-- R99: with RX_COUNT at most RX_CAPACITY, CRC.CALC, word 0x0003, completes: CRC is the checksum of RXBUF[0..RX_COUNT),
whatever CRC held, the seed for no bytes; success is reported, nothing else changes, and CRC.INIT followed by one CRC.BYTE
per byte ends in the same state. With RX_COUNT above RX_CAPACITY it reports BAD_COUNT and changes nothing but OK and ERR. -/
def Obligations.CrcCalcChecksumsReceivedBytes : Prop :=
  (∀ s : State, s.rxCount.toNat ≤ s.config.rxCapacity →
    ∃ t, exec .crcCalc s = .next t
      ∧ t = { s with crc := crc16 (s.firstBytes .rxBuf s.rxCount.toNat), status := t.status }
      ∧ (s.rxCount.toNat = 0 → t.crc = 0xFFFF#16)
      ∧ Reports true 0#4 s t ∧ SameBytes s t
      ∧ runCommands (.crcInit :: (s.firstBytes .rxBuf s.rxCount.toNat).map .crcByte) s = .next t)
  ∧ (∀ s : State, s.config.rxCapacity < s.rxCount.toNat →
    ∃ t, exec .crcCalc s = .next t ∧ t = { s with status := t.status } ∧ Reports false 6#4 s t ∧ SameBytes s t)
  ∧ encode .crcCalc = 0x0003#16
  ∧ crc16 [0x55#8, 0x60#8, 0x01#8, 0x07#8, 0xC0#8, 0x00#8, 0x00#8, 0x01#8] = 0xDFAC#16

/-- R110, R112: every byte of the encoder's result, its length, at most 265, and the CRC over all bytes before it, low byte
first. -/
def Obligations.EncodedFrameLayout : Prop :=
  ∀ (cmd : Half) (opid : Byte) (P : List Byte), P.length ≤ 255 →
    (frameEncode cmd opid P).length = 10 + P.length ∧ 10 + P.length ≤ 265
    ∧ (frameEncode cmd opid P).take 8
        = [0x55#8, 0x60#8, 0x01#8, cmd.extractLsb' 0 8, cmd.extractLsb' 8 8, BitVec.ofNat 8 P.length, 0x00#8, opid]
    ∧ (BitVec.ofNat 8 P.length).toNat = P.length
    ∧ (∀ k < P.length, (frameEncode cmd opid P)[8 + k]? = P[k]?)
    ∧ (frameEncode cmd opid P)[8 + P.length]?
        = some ((crc16 ((frameEncode cmd opid P).take (8 + P.length))).extractLsb' 0 8)
    ∧ (frameEncode cmd opid P)[9 + P.length]?
        = some ((crc16 ((frameEncode cmd opid P).take (8 + P.length))).extractLsb' 8 8)

/-- R116: the source's example, byte for byte. -/
def Obligations.EncodeExampleOfTheSource : Prop :=
  frameEncode 0xC007#16 0x01#8 []
    = [0x55#8, 0x60#8, 0x01#8, 0x07#8, 0xC0#8, 0x00#8, 0x00#8, 0x01#8, 0xAC#8, 0xDF#8]

/-- R111, R113: FRM.ENC completes in every state. TXBUF[0..10+len) is the frame of the Request in the operand registers,
TX_COUNT its length; CRC is the CRC of its first 8+len bytes, the same 16 bits that end the frame; success is reported;
no other register and no other byte of a memory changes. -/
def Obligations.FrmEncBuildsTheFrame : Prop :=
  (∀ s : State, ∃ t, exec .frmEnc s = .next t
    ∧ t.txCount.toNat = 10 + s.reqLen.toNat
    ∧ t.firstBytes .txBuf (10 + s.reqLen.toNat)
        = frameEncode s.reqCmd s.reqOpid (s.firstBytes .reqPayload s.reqLen.toNat)
    ∧ SameBytesBut .txBuf (10 + s.reqLen.toNat) s t
    ∧ t.crc = crc16 (t.firstBytes .txBuf (8 + s.reqLen.toNat))
    ∧ t.crc = t.readByte .txBuf (9 + s.reqLen.toNat) ++ t.readByte .txBuf (8 + s.reqLen.toNat)
    ∧ Reports true 0#4 s t ∧ SameSurroundings s t ∧ SameHostRegisters s t ∧ SameResponse s t)
  ∧ encode .frmEnc = 0x0004#16

/-- R133, R159: FRM.DEC always completes, and STATUS after it is the value of the outcome's row, the outcome being the
first that applies in the order BAD_COUNT, TOO_SHORT, BAD_START, TRUNCATED, no CRC, full span, payload only, mismatch. -/
def Obligations.FrmDecStatusTable : Prop :=
  ∀ s : State, ∃ t, exec .frmDec s = .next t ∧ t.status = (decodePath s).status

/-- R131: CRC after FRM.DEC, every path. -/
def Obligations.FrmDecCrcTable : Prop :=
  ∀ s : State, ∃ t, exec .frmDec s = .next t ∧ t.crc = decodeCrc s

/-- R130, R129: where FRM.DEC accepts it completes with the command, operation ID, length and payload of what RXBUF holds,
written together; RSP_PAYLOAD at and past the length and everything else but STATUS and CRC is unchanged. Where it
rejects, none of the four is written. -/
def Obligations.FrmDecAcceptCommitsResponse : Prop :=
  (∀ s : State, (decodePath s).accepts = true → ∃ t, exec .frmDec s = .next t
    ∧ t.rspCmd = s.readByte .rxBuf 4 ++ s.readByte .rxBuf 3
    ∧ t.rspOpid = s.readByte .rxBuf 7
    ∧ t.rspLen = s.readByte .rxBuf 5
    ∧ t.firstBytes .rspPayload (rxLen s) = rxPayload s
    ∧ SameBytesBut .rspPayload (rxLen s) s t
    ∧ t.status = (decodePath s).status ∧ t.crc = decodeCrc s
    ∧ t.txCount = s.txCount ∧ SameSurroundings s t ∧ SameHostRegisters s t)
  ∧ (∀ s : State, (decodePath s).accepts = false → ∃ t, exec .frmDec s = .next t ∧ SameResponse s t
    ∧ ∀ a, t.readByte .rspPayload a = s.readByte .rspPayload a)

/-- R132: where FRM.DEC rejects it reports the outcome's code with OK and RSP_VALID 0, CRC_DOMAIN 0 and CRC_PRESENT 1 only
on a mismatch, writes CRC as R131 says, and changes nothing else: the Response keeps the last accepted one. -/
def Obligations.FrmDecRejectChangesStatusAndCrcOnly : Prop :=
  ∀ s : State, (decodePath s).accepts = false → ∃ t, exec .frmDec s = .next t
    ∧ t = { s with status := t.status, crc := decodeCrc s } ∧ SameBytes s t ∧ SameResponse s t
    ∧ statusOk t.status = false ∧ statusRspValid t.status = false ∧ statusCrcDomain t.status = false
    ∧ statusErr t.status = (match decodePath s with
        | .tooShort => 1#4 | .badStart => 2#4 | .truncated => 3#4 | .mismatch => 4#4 | _ => 6#4)
    ∧ statusCrcPresent t.status = decide (decodePath s = .mismatch)

/-- R142: SRST, word 0x00FF, completes, puts every register at its reset value and the sequencer at idle, keeps the
memories and everything else; twice is the same as once, and a hardware reset leaves the same registers. -/
def Obligations.SrstResetsRegistersKeepsMemories : Prop :=
  (∀ s : State, ∃ t, exec .srst s = .next t
    ∧ t.status = 0x00#8 ∧ t.cfg = 1#1 ∧ t.crc = 0xFFFF#16 ∧ t.reqCmd = 0x0000#16 ∧ t.reqOpid = 0x00#8
    ∧ t.reqLen = 0x00#8 ∧ t.txCount = 0#9 ∧ t.rxCount = 0x0000#16 ∧ t.rspCmd = 0x0000#16 ∧ t.rspOpid = 0x00#8
    ∧ t.rspLen = 0x00#8 ∧ t.sequencer = Sequencer.idle ∧ SameBytes s t
    ∧ t.config = s.config ∧ t.epoch = s.epoch ∧ t.pending = s.pending ∧ t.reply = s.reply ∧ exec .srst t = .next t
    ∧ ∃ u, serveAction .hardReset s = .next u
        ∧ u = { t with epoch := u.epoch, reqPayload := u.reqPayload, txBuf := u.txBuf, rxBuf := u.rxBuf,
                       rspPayload := u.rspPayload })
  ∧ encode .srst = 0x00FF#16

/-- R21, R35, columns "written by": a command changes a register or a memory only where the tables list it. -/
def Obligations.OnlyListedCommandsWriteEachPlace : Prop :=
  ∀ (i : Instr) (s t : State), exec i s = .next t →
    (t.status ≠ s.status → i ≠ .nop)
    ∧ (t.cfg ≠ s.cfg ∨ t.reqCmd ≠ s.reqCmd ∨ t.reqOpid ≠ s.reqOpid ∨ t.reqLen ≠ s.reqLen ∨ t.rxCount ≠ s.rxCount →
        i = .srst)
    ∧ (t.crc ≠ s.crc → i ≠ .nop)
    ∧ (t.txCount ≠ s.txCount → i = .frmEnc ∨ i = .srst)
    ∧ (t.rspCmd ≠ s.rspCmd ∨ t.rspOpid ≠ s.rspOpid ∨ t.rspLen ≠ s.rspLen → i = .frmDec ∨ i = .srst)
    ∧ (∀ a, t.readByte .txBuf a ≠ s.readByte .txBuf a → i = .frmEnc)
    ∧ (∀ a, t.readByte .rspPayload a ≠ s.readByte .rspPayload a → i = .frmDec)
    ∧ (∀ a, t.readByte .reqPayload a = s.readByte .reqPayload a ∧ t.readByte .rxBuf a = s.readByte .rxBuf a)

/-- R32: NOP keeps STATUS; every other command but SRST ends with OK = 1 and ERR = 0 or with OK = 0 and a code that is
not 0; SRST writes 0x00; only FRM.DEC and SRST write bits 1 to 3; nothing is sticky and no command reads STATUS: run from
any other STATUS value, a command does the same to everything else, reports the same OK and ERR, and FRM.DEC the same
STATUS. An illegal word writes OK and ERR too, and keeps bits 1 to 3. So from reset on, OK = 1 implies ERR = 0, and ERR = 0
implies OK = 1 or the value 0x00 of a reset. -/
def Obligations.StatusDiscipline : Prop :=
  (∀ (i : Instr) (s t : State), exec i s = .next t →
    (i = .nop → t.status = s.status)
    ∧ (i = .srst → t.status = 0x00#8)
    ∧ (i ≠ .nop → i ≠ .srst → (statusOk t.status = true ∧ statusErr t.status = 0#4)
        ∨ (statusOk t.status = false ∧ statusErr t.status ≠ 0#4))
    ∧ (i ≠ .frmDec → i ≠ .srst → SameDecodeBits s t)
    ∧ (i ≠ .nop → ∀ x : BitVec 8, ∃ y : BitVec 8, exec i { s with status := x } = .next { t with status := y }
        ∧ statusOk y = statusOk t.status ∧ statusErr y = statusErr t.status ∧ (i = .frmDec → y = t.status)))
  ∧ (∀ (v : Word32) (s : State), (∀ i, decodeCommand v ≠ .ok i) →
      ∃ t, serveAction (.issue v) s = .next t ∧ Reports false 5#4 s t)
  ∧ OkErrAgree State.reset ∧ (∀ s t : State, OkErrAgree s → step s = .next t → OkErrAgree t)

/-- R58: a read changes nothing but what it returns; a write of a register or a byte, and every command but CRC.BYTE, done
twice is the same as once; CRC.BYTE advances the CRC again, and an illegal command after a success changes OK from 1 to 0.
The memories are in canonical form where equal memories must be equal data. -/
def Obligations.IdempotentActionsAndCommands : Prop :=
  (∀ (s : State) (n : Nat) (S : Space) (a : Nat),
    (∃ t, serveAction (.readReg n) s = .next t ∧ t = { s with reply := t.reply } ∧ serveAction (.readReg n) t = .next t)
    ∧ (∃ t, serveAction (.readBuf S a) s = .next t ∧ t = { s with reply := t.reply }
        ∧ serveAction (.readBuf S a) t = .next t))
  ∧ (∀ (s : State) (n : Nat) (v : Word32), n ≠ 0 →
      ∃ t, serveAction (.writeReg n v) s = .next t ∧ serveAction (.writeReg n v) t = .next t)
  ∧ (∀ (s : State) (S : Space) (a : Nat) (b : Byte), MemoriesCanonical s →
      ∃ t, serveAction (.writeBuf S a b) s = .next t ∧ serveAction (.writeBuf S a b) t = .next t)
  ∧ (∀ (i : Instr) (s : State), MemoriesCanonical s → (∀ b, i ≠ .crcByte b) →
      ∃ t, exec i s = .next t ∧ exec i t = .next t)
  ∧ (∀ (b : Byte) (s : State), ∃ t u, exec (.crcByte b) s = .next t ∧ exec (.crcByte b) t = .next u
      ∧ u.crc = crcByte (crcByte s.crc b) b)
  ∧ (∀ (v : Word32) (s : State), (∀ i, decodeCommand v ≠ .ok i) → statusOk s.status = true →
      ∃ t, serveAction (.issue v) s = .next t ∧ statusOk t.status = false)

/-- R160, R151: the state after a failed command, one of the seven or an illegal word, is the state before it except for
STATUS and, for FRM.DEC that reports CRC_MISMATCH, CRC; of STATUS, FRM.DEC writes every bit, with RSP_VALID and CRC_DOMAIN 0
and CRC_PRESENT 1 only on CRC_MISMATCH, and the others write OK and ERR only. -/
def Obligations.FailureIsPrecise : Prop :=
  ∀ (w : Word32) (s t : State), decodeCommand w ≠ .ok .nop → decodeCommand w ≠ .ok .srst →
    issueCommand w s = .next t → statusOk t.status = false →
      t = { s with status := t.status, crc := t.crc }
      ∧ (t.crc ≠ s.crc → decodeCommand w = .ok .frmDec ∧ statusErr t.status = 4#4)
      ∧ statusErr t.status ≠ 0#4
      ∧ (decodeCommand w = .ok .frmDec → statusRspValid t.status = false ∧ statusCrcDomain t.status = false
          ∧ (statusCrcPresent t.status = true ↔ statusErr t.status = 4#4))
      ∧ (decodeCommand w ≠ .ok .frmDec → SameDecodeBits s t)

/-! ## The decoder as a function -/

/-- R115: decoding an encoded Request gives it back with the CRC present and matched over the full span, for either
value of the fallback flag; and FRM.ENC, loopback, FRM.DEC leaves the Request in the Response registers with STATUS
0x07. -/
def Obligations.EncodeDecodeRoundTrip : Prop :=
  (∀ (cmd : Half) (opid : Byte) (P : List Byte) (fb : Bool), P.length ≤ 255 →
    frameDecode (frameEncode cmd opid P) fb = .accept cmd opid P true false)
  ∧ (∀ s : State, s.config.legal → ∃ t u, exec .frmEnc s = .next t
      ∧ Sys2Proof.core.run ((scriptLoopback t).length + 1)
          (t.withScript (scriptLoopback t ++ [scriptCommand .frmDec])) = .next u
      ∧ u.rspCmd = s.reqCmd ∧ u.rspOpid = s.reqOpid ∧ u.rspLen = s.reqLen
      ∧ u.firstBytes .rspPayload s.reqLen.toNat = s.firstBytes .reqPayload s.reqLen.toNat
      ∧ u.status = 0x07#8 ∧ u.pending = s.pending)

/-- R95 (c), R126, R122: with the fallback off, an encoded frame in which one byte is changed is never accepted, unless
the changed byte is the length: a changed byte 0 is BAD_START, any other CRC_MISMATCH. -/
def Obligations.OneChangedByteIsRejected : Prop :=
  ∀ (cmd : Half) (opid : Byte) (P : List Byte) (k : Nat) (b : Byte), P.length ≤ 255 → k < 10 + P.length → k ≠ 5 →
    (frameEncode cmd opid P)[k]? ≠ some b →
      frameDecode ((frameEncode cmd opid P).set k b) false
        = .reject (if k = 0 then .badStart else .crcMismatch)

/-- R126, R127, R182: for a given header and payload, two trailing values are acceptable with the fallback and one
without; an 8-byte header with length 0 followed by FF FF is accepted with the fallback whatever its own CRC is. -/
def Obligations.AcceptableTrailingCrcs : Prop :=
  (∀ (B : List Byte) (c : Half) (fb : Bool), B[0]? = some 0x55#8 → 8 ≤ B.length →
      B.length = 8 + (B.getD 5 0#8).toNat →
      ((∃ cmd opid P d, frameDecode (B ++ [c.extractLsb' 0 8, c.extractLsb' 8 8]) fb = .accept cmd opid P true d) ↔
        c = crc16 B ∨ (fb = true ∧ c = crc16 (B.drop 8))))
  ∧ (∀ B : List Byte, B.length = 8 → B[0]? = some 0x55#8 → B[5]? = some 0x00#8 →
      ∃ cmd opid d, frameDecode (B ++ [0xFF#8, 0xFF#8]) true = .accept cmd opid [] true d)

/-- R120: the fallback only adds accepted inputs (spec/95_test_vectors.md section 4, law 7). -/
def Obligations.FallbackOnlyAddsAcceptedInputs : Prop :=
  ∀ (B : List Byte) (cmd : Half) (opid : Byte) (P : List Byte) (p d : Bool),
    frameDecode B false = .accept cmd opid P p d → frameDecode B true = .accept cmd opid P p d

/-- R74: every Response produced has exactly the declared number of payload bytes (law 6). -/
def Obligations.AcceptedPayloadHasDeclaredLength : Prop :=
  ∀ (B : List Byte) (fb : Bool) (cmd : Half) (opid : Byte) (P : List Byte) (p d : Bool),
    frameDecode B fb = .accept cmd opid P p d → B[5]? = some (BitVec.ofNat 8 P.length) ∧ P.length ≤ 255

/-- R75: bytes 1, 2 and 6 of a received sequence are not examined: where no trailing CRC is present, changing one of
them changes nothing in the result. -/
def Obligations.BytesOneTwoSixNotExamined : Prop :=
  ∀ (B : List Byte) (fb : Bool) (k : Nat) (b : Byte), k = 1 ∨ k = 2 ∨ k = 6 →
    B.length < 10 + (B.getD 5 0#8).toNat → frameDecode (B.set k b) fb = frameDecode B fb

/-- R125: presence of the CRC is decided by length alone: an accepted sequence has one exactly when two more bytes than
header and payload are there; bytes after the CRC are ignored, and so is one extra byte after a frame without CRC. -/
def Obligations.CrcPresenceByLengthAlone : Prop :=
  (∀ (B X : List Byte) (fb : Bool), 10 + (B.getD 5 0#8).toNat ≤ B.length → frameDecode (B ++ X) fb = frameDecode B fb)
  ∧ (∀ (B : List Byte) (x : Byte) (fb : Bool), B.length = 8 + (B.getD 5 0#8).toNat →
      frameDecode (B ++ [x]) fb = frameDecode B fb)
  ∧ (∀ (B : List Byte) (fb : Bool) (cmd : Half) (opid : Byte) (P : List Byte) (p d : Bool),
      frameDecode B fb = .accept cmd opid P p d → (p = true ↔ 10 + (B.getD 5 0#8).toNat ≤ B.length))

/-! ## What commands do not depend on -/

/-- R124, R38: bytes of RXBUF at or past RX_COUNT never influence FRM.DEC or CRC.CALC: with another RXBUF that reads
alike below RX_COUNT, everything but RXBUF ends the same. -/
def Obligations.BytesPastRxCountHaveNoInfluence : Prop :=
  ∀ (s t u : State) (m : Memory) (i : Instr), i = .frmDec ∨ i = .crcCalc → u = { s with rxBuf := m } →
    (∀ a < s.rxCount.toNat, u.readByte .rxBuf a = s.readByte .rxBuf a) → exec i s = .next t →
      exec i u = .next { t with rxBuf := m }

/-- R33: CFG.FALLBACK_EN is read only by FRM.DEC: every other command but SRST does the same to everything else whatever
CFG holds. -/
def Obligations.OnlyDecodeReadsFallbackBit : Prop :=
  ∀ (i : Instr) (s t : State) (c : BitVec 1), i ≠ .frmDec → i ≠ .srst → exec i s = .next t →
    exec i { s with cfg := c } = .next { t with cfg := c }

/-- R172: between hardware resets a byte that has not been written keeps the value it reads as. -/
def Obligations.UnwrittenBytesAreStable : Prop :=
  ∀ (s t : State) (S : Space) (a : Nat), step s = .next t → t.epoch = s.epoch → (t.space S).get? a = none →
    (s.space S).get? a = none ∧ t.readByte S a = s.readByte S a

/-! ## Host actions -/

/-- R40: writes to RW registers keep the low bits and change nothing else, writes to RO registers nothing; reads return
the value zero-extended, 0 for CMD; no read changes anything but the reply. -/
def Obligations.RegisterAccessRules : Prop :=
  ∀ (s : State) (v : Word32),
    (serveAction (.writeReg 2 v) s = .next { s with cfg := v.extractLsb' 0 1 }
      ∧ serveAction (.writeReg 4 v) s = .next { s with reqCmd := v.extractLsb' 0 16 }
      ∧ serveAction (.writeReg 5 v) s = .next { s with reqOpid := v.extractLsb' 0 8 }
      ∧ serveAction (.writeReg 6 v) s = .next { s with reqLen := v.extractLsb' 0 8 }
      ∧ serveAction (.writeReg 8 v) s = .next { s with rxCount := v.extractLsb' 0 16 })
    ∧ (∀ i ∈ [1, 3, 7, 9, 10, 11], serveAction (.writeReg i v) s = .next s)
    ∧ (serveAction (.readReg 0) s = .next { s with reply := .word 0#32 }
      ∧ serveAction (.readReg 1) s = .next { s with reply := .word (s.status.setWidth 32) }
      ∧ serveAction (.readReg 2) s = .next { s with reply := .word (s.cfg.setWidth 32) }
      ∧ serveAction (.readReg 3) s = .next { s with reply := .word (s.crc.setWidth 32) }
      ∧ serveAction (.readReg 4) s = .next { s with reply := .word (s.reqCmd.setWidth 32) }
      ∧ serveAction (.readReg 5) s = .next { s with reply := .word (s.reqOpid.setWidth 32) }
      ∧ serveAction (.readReg 6) s = .next { s with reply := .word (s.reqLen.setWidth 32) }
      ∧ serveAction (.readReg 7) s = .next { s with reply := .word (s.txCount.setWidth 32) }
      ∧ serveAction (.readReg 8) s = .next { s with reply := .word (s.rxCount.setWidth 32) }
      ∧ serveAction (.readReg 9) s = .next { s with reply := .word (s.rspCmd.setWidth 32) }
      ∧ serveAction (.readReg 10) s = .next { s with reply := .word (s.rspOpid.setWidth 32) }
      ∧ serveAction (.readReg 11) s = .next { s with reply := .word (s.rspLen.setWidth 32) })
    ∧ (∀ S a, serveAction (.readBuf S a) s = .next { s with reply := .byte (s.readByte S a) })

/-- R57: register numbers from 12 on read 0 and ignore writes; so do buffer indices past the end; the read-only spaces
ignore writes. -/
def Obligations.UnmappedActionsReadZeroWriteNothing : Prop :=
  ∀ (s : State),
    (∀ (i : Nat) (v : Word32), 12 ≤ i → serveAction (.readReg i) s = .next { s with reply := .word 0#32 }
      ∧ serveAction (.writeReg i v) s = .next s)
    ∧ (∀ (S : Space) (a : Nat) (b : Byte), spaceSize s.config S ≤ a →
        serveAction (.readBuf S a) s = .next { s with reply := .byte 0#8 } ∧ serveAction (.writeBuf S a b) s = .next s)
    ∧ (∀ (a : Nat) (b : Byte), serveAction (.writeBuf .txBuf a b) s = .next s
        ∧ serveAction (.writeBuf .rspPayload a b) s = .next s)

/-- R35: a byte written to REQ_PAYLOAD or RXBUF inside its size reads back, and no other byte of any space, no register
and nothing else changes. -/
def Obligations.WrittenByteReadsBackAlone : Prop :=
  ∀ (s : State) (S : Space) (a : Nat) (b : Byte), S = .reqPayload ∨ S = .rxBuf → a < spaceSize s.config S →
    ∃ t, serveAction (.writeBuf S a b) s = .next t ∧ t.readByte S a = b
      ∧ (∀ T c, ¬ (T = S ∧ c = a) → t.readByte T c = s.readByte T c)
      ∧ t = { s with reqPayload := t.reqPayload, rxBuf := t.rxBuf }

/-- R42, R170: HardReset puts every register at its reset value and the sequencer at idle. -/
def Obligations.HardResetRegisterValues : Prop :=
  ∀ s : State, ∃ t, serveAction .hardReset s = .next t
    ∧ t.status = 0x00#8 ∧ t.cfg = 1#1 ∧ t.crc = 0xFFFF#16 ∧ t.reqCmd = 0x0000#16 ∧ t.reqOpid = 0x00#8
    ∧ t.reqLen = 0x00#8 ∧ t.txCount = 0#9 ∧ t.rxCount = 0x0000#16 ∧ t.rspCmd = 0x0000#16 ∧ t.rspOpid = 0x00#8
    ∧ t.rspLen = 0x00#8 ∧ t.sequencer = { phase := .idle, byteIndex := 0, bitCount := 0#3 }

/-- R172: after HardReset every byte of every space reads as the free byte of the new reset, whatever was written
before; the parameter and the moves still pending stay (the model's choices of log 5 and log 7). -/
def Obligations.HardResetMemoriesUnspecified : Prop :=
  ∀ s : State, ∃ t, serveAction .hardReset s = .next t ∧ t.config = s.config ∧ t.pending = s.pending
    ∧ (∀ S a, a < spaceSize s.config S → t.readByte S a = Config.unwrittenByte (s.epoch + 1) S a)

/-- R173: from the reset state FRM.ENC encodes the all-zero Request and FRM.DEC reports TOO_SHORT. -/
def Obligations.CommandsFromReset : Prop :=
  (∃ t, exec .frmEnc State.reset = .next t ∧ t.firstBytes .txBuf t.txCount.toNat
      = [0x55#8, 0x60#8, 0x01#8, 0x00#8, 0x00#8, 0x00#8, 0x00#8, 0x00#8, 0xE4#8, 0xDF#8])
  ∧ (∃ t, exec .frmDec State.reset = .next t ∧ statusOk t.status = false ∧ statusErr t.status = 1#4)

/-! ## The bus -/

/-- R55: a 32-bit access at `4*i` is the access of register `i`; an 8-bit access inside a buffer window is the access of
that byte. That a byte write takes bits 7:0 of the 32 data bits, and a register access all 32, is the model's choice
(log 11). -/
def Obligations.BusAddressMap : Prop :=
  ∀ (s : State) (v : Word32),
    (∀ i < 12, serveBus (.read .word (0x00000 + 4 * i)) s = serveAction (.readReg i) s
      ∧ serveBus (.write .word (0x00000 + 4 * i) v) s = serveAction (.writeReg i v) s)
    ∧ (∀ a < 255, serveBus (.read .byte (0x00100 + a)) s = serveAction (.readBuf .reqPayload a) s
      ∧ serveBus (.write .byte (0x00100 + a) v) s = serveAction (.writeBuf .reqPayload a (v.extractLsb' 0 8)) s)
    ∧ (∀ a < 265, serveBus (.read .byte (0x00200 + a)) s = serveAction (.readBuf .txBuf a) s
      ∧ serveBus (.write .byte (0x00200 + a) v) s = serveAction (.writeBuf .txBuf a (v.extractLsb' 0 8)) s)
    ∧ (∀ a < 255, serveBus (.read .byte (0x00400 + a)) s = serveAction (.readBuf .rspPayload a) s
      ∧ serveBus (.write .byte (0x00400 + a) v) s = serveAction (.writeBuf .rspPayload a (v.extractLsb' 0 8)) s)
    ∧ (∀ a < s.config.rxCapacity, serveBus (.read .byte (0x01000 + a)) s = serveAction (.readBuf .rxBuf a) s
      ∧ serveBus (.write .byte (0x01000 + a) v) s = serveAction (.writeBuf .rxBuf a (v.extractLsb' 0 8)) s)

/-- R57: at an unmapped address an 8-bit write changes nothing and an 8-bit read returns 0 and changes nothing else; a
32-bit access at an unmapped register number does the same. -/
def Obligations.BusUnmappedAddresses : Prop :=
  ∀ (s : State) (v : Word32),
    (∀ addr, BusUnmapped s addr → serveBus (.read .byte addr) s = .next { s with reply := .byte 0#8 }
      ∧ serveBus (.write .byte addr v) s = .next s)
    ∧ (∀ i, 12 ≤ i → i ≤ 63 → serveBus (.read .word (4 * i)) s = .next { s with reply := .word 0#32 }
      ∧ serveBus (.write .word (4 * i) v) s = .next s)

/-- R56: an 8-bit or 16-bit access to the register window, a misaligned 32-bit access, and a 16-bit or 32-bit access to a
buffer window are refused; an aligned 32-bit access to the register window and an 8-bit access to a buffer window go on. -/
def Obligations.BusUnsupportedAccessRefused : Prop :=
  ∀ (s : State) (w : AccessWidth) (addr : Nat) (v : Word32),
    ((addr < 0x00030 ∧ w ≠ .word) ∨ (w = .word ∧ addr % 4 ≠ 0) ∨ (BusBuffer s addr ∧ w ≠ .byte) →
      (∃ r, serveBus (.read w addr) s = .refused r) ∧ (∃ r, serveBus (.write w addr v) s = .refused r))
    ∧ ((addr < 0x00030 ∧ w = .word ∧ addr % 4 = 0) ∨ (BusBuffer s addr ∧ w = .byte) →
      (∃ t, serveBus (.read w addr) s = .next t) ∧ (∃ t, serveBus (.write w addr v) s = .next t))

/-! ## Steps -/

/-- R50, R60, R8, R29: a step is the next pending move, served whole on the state with the move taken off the list and
the reply cleared: a host action as that action, a bus transaction as that transaction. So a word that is issued, written
to register 0 or written on the bus at address 0 runs the command it decodes to, and reports ILLEGAL_CMD where it decodes
to none. The list of moves and the cleared reply are the model's choices (log 2, log 4). -/
def Obligations.StepRunsTheIssuedCommand : Prop :=
  (∀ (s : State) (m : HostMove) (rest : List HostMove), s.pending = m :: rest →
    (∀ h, m = .action h → step s = serveAction h { s with pending := rest, reply := .none })
    ∧ (∀ b, m = .bus b → step s = serveBus b { s with pending := rest, reply := .none }))
  ∧ (∀ (s : State) (m : HostMove) (rest : List HostMove) (w : Word32), s.pending = m :: rest →
    m = .action (.issue w) ∨ m = .action (.writeReg 0 w) ∨ m = .bus (.write .word 0 w) →
      (∀ i, decodeCommand w = .ok i → step s = exec i { s with pending := rest, reply := .none })
      ∧ (∀ e, decodeCommand w = .error e → step s
          = .next { s with pending := rest, reply := .none, status := statusCmdFail s.status .illegalCmd }))

/-- R50, R160, R161: every one of the six host actions is served with a next state: no command and no failure stops the
block. With no move pending the step changes nothing (R164; that such a step exists is the model's choice, log 3). -/
def Obligations.HostActionsNeverStopTheBlock : Prop :=
  (∀ s : State, NextIsAction s → ∃ t, step s = .next t) ∧ (∀ s : State, s.pending = [] → step s = .next s)

/-- R6, R20: no step changes the parameter RX_CAPACITY; a step takes exactly the first pending move, if there is one; the
number of the reset goes up by one under HardReset and is kept under every other move. That the parameter is a field of
the state (log 1), that the moves are a list of which a step takes one (log 2) and HardReset keeps the rest (log 7), and the
number of the reset itself (log 6) are the model's choices. -/
def Obligations.StepKeepsParameterAndTakesOneMove : Prop :=
  ∀ s t : State, step s = .next t →
    t.config = s.config ∧ t.pending = s.pending.tail
      ∧ t.epoch = (if s.pending.head? = some (.action .hardReset) then s.epoch + 1 else s.epoch)

/-- The reset state meets the invariant. -/
def Obligations.ResetMeetsInvariant : Prop := Inv State.reset ∧ TxHoldsFrame State.reset

/-- R26, R28, R31, R32, R35, R41: every step keeps the invariant: RX_CAPACITY in its range, the sequencer idle, STATUS
legal, TX_COUNT 0 or 10 to 265, the memories in canonical form and inside their sizes, the Response's payload held. -/
def Obligations.StepKeepsInvariant : Prop := ∀ s t : State, Inv s → step s = .next t → Inv t

/-- R26: every step keeps it that TXBUF[0..TX_COUNT) is the frame of some Request, or TX_COUNT is 0. -/
def Obligations.StepKeepsTxFrame : Prop := ∀ s t : State, TxHoldsFrame s → step s = .next t → TxHoldsFrame t

/-- R183, R93: the number of bit-steps of every command, as the bit-serial engine takes them: the engine run over the
bytes that the command covers is busy for that many steps, not fewer, and ends with the CRC that the command leaves. With
the rule's numbers and bounds, and 0 for an illegal word. What passes a command has is said in `commandPasses`; that one
phase stands during each is the model's choice (log 8). -/
def Obligations.BitStepCounts : Prop :=
  (∀ (w : Word32) (s t : State), issueCommand w s = .next t → issuedPasses w s ≠ [] →
    (s.runPasses (issuedPasses w s)).crc = t.crc)
  ∧ (∀ (w : Word32) (s : State) (i : Instr), decodeCommand w = .ok i → issuedBitSteps w s = commandBitSteps i s)
  ∧ (∀ (w : Word32) (s : State), (∀ i, decodeCommand w ≠ .ok i) →
    ∃ t, issueCommand w s = .next t ∧ t.crc = s.crc ∧ issuedBitSteps w s = 0)
  ∧ (∀ s : State, ∃ t, exec .nop s = .next t ∧ t.crc = s.crc ∧ commandBitSteps .nop s = 0)
  ∧ (∀ s : State, ∃ t, exec .crcInit s = .next t ∧ t.crc = 0xFFFF#16 ∧ commandBitSteps .crcInit s = 0)
  ∧ (∀ s : State, ∃ t, exec .srst s = .next t ∧ t.crc = 0xFFFF#16 ∧ commandBitSteps .srst s = 0)
  ∧ (∀ (b : Byte) (s : State), ∃ t, exec (.crcByte b) s = .next t ∧ commandBitSteps (.crcByte b) s = 8
    ∧ EngineComputes s.crc [b] 8 t.crc)
  ∧ (∀ s : State, s.rxCount.toNat ≤ s.config.rxCapacity →
    ∃ t, exec .crcCalc s = .next t ∧ commandBitSteps .crcCalc s = 8 * s.rxCount.toNat
      ∧ EngineComputes 0xFFFF#16 (s.firstBytes .rxBuf s.rxCount.toNat) (8 * s.rxCount.toNat) t.crc)
  ∧ (∀ s : State, s.config.rxCapacity < s.rxCount.toNat →
    ∃ t, exec .crcCalc s = .next t ∧ t.crc = s.crc ∧ commandBitSteps .crcCalc s = 0)
  ∧ (∀ s : State, ∃ t, exec .frmEnc s = .next t ∧ commandBitSteps .frmEnc s = 8 * (8 + s.reqLen.toNat)
    ∧ 64 ≤ commandBitSteps .frmEnc s ∧ commandBitSteps .frmEnc s ≤ 2104
    ∧ EngineComputes 0xFFFF#16 (t.firstBytes .txBuf (8 + s.reqLen.toNat)) (8 * (8 + s.reqLen.toNat)) t.crc)
  ∧ (∀ s : State, decodePath s ∈ [.badCount, .tooShort, .badStart, .truncated, .noCrc] →
    ∃ t, exec .frmDec s = .next t ∧ t.crc = s.crc ∧ commandBitSteps .frmDec s = 0)
  ∧ (∀ s : State, decodePath s = .fullSpan ∨ (decodePath s = .mismatch ∧ s.cfg = 0#1) →
    ∃ t, exec .frmDec s = .next t ∧ commandBitSteps .frmDec s = 8 * (8 + rxLen s)
      ∧ EngineComputes 0xFFFF#16 (s.firstBytes .rxBuf (8 + rxLen s)) (8 * (8 + rxLen s)) t.crc)
  ∧ (∀ s : State, decodePath s = .payloadOnly ∨ (decodePath s = .mismatch ∧ s.cfg = 1#1) →
    ∃ t full, exec .frmDec s = .next t ∧ commandBitSteps .frmDec s = 8 * (8 + rxLen s) + 8 * rxLen s
      ∧ commandBitSteps .frmDec s ≤ 4144
      ∧ EngineComputes 0xFFFF#16 (s.firstBytes .rxBuf (8 + rxLen s)) (8 * (8 + rxLen s)) full ∧ full ≠ rxTrailer s
      ∧ EngineComputes 0xFFFF#16 (rxPayload s) (8 * rxLen s) t.crc)
end

