-- ==== Sys2Proof/Laws/Crc.lean ====
section
/-! SUPPORT. The CRC of a sequence put together from parts (spec/40_crc.md R92), and the lengths and parts of a frame. -/

namespace Sys2Proof.Machine

@[simp] theorem crcFrom_nil (c : Half) : crcFrom c [] = c := rfl
@[simp] theorem crcFrom_cons (c : Half) (b : Byte) (B : List Byte) :
    crcFrom c (b :: B) = crcFrom (crcByte c b) B := rfl

/-- `crc_from(s, X ++ Y) = crc_from(crc_from(s, X), Y)` (spec/40_crc.md R92). -/
theorem crcFrom_append (c : Half) (X Y : List Byte) : crcFrom c (X ++ Y) = crcFrom (crcFrom c X) Y := by
  simp [crcFrom]

/-- Both bit-steps are the shift, XORed with the polynomial or with 0. -/
theorem crcBit_eq (c : Half) : crcBit c = (c >>> 1) ^^^ (if c.getLsbD 0 then crcPoly else 0#16) := by
  unfold crcBit; split <;> simp

/-- Two bytes of a 16-bit value put together again. -/
theorem joinBytes_lowByte_highByte (v : Half) : joinBytes (lowByte v) (highByte v) = v := by
  apply BitVec.eq_of_getLsbD_eq
  intro i hi
  simp only [joinBytes, lowByte, highByte, BitVec.getLsbD_or, BitVec.getLsbD_setWidth, BitVec.getLsbD_shiftLeft,
    BitVec.getLsbD_extractLsb', hi, decide_true, Bool.true_and]
  by_cases h : i < 8
  · simp [h]
  · have h1 : i - 8 < 8 := by omega
    have h2 : 8 + (i - 8) = i := by omega
    simp [h, h1, h2]
    omega

@[simp] theorem frameHeader_length (cmd : Half) (opid len : Byte) : (frameHeader cmd opid len).length = 8 := rfl
@[simp] theorem frameBody_length (cmd : Half) (opid : Byte) (P : List Byte) :
    (frameBody cmd opid P).length = 8 + P.length := by simp [frameBody]
@[simp] theorem crcTrailer_length (c : Half) : (crcTrailer c).length = 2 := rfl

end Sys2Proof.Machine
end

