-- ==== Sys2Proof/Laws/Flags.lean ====
section
/-! SUPPORT. The fields of a STATUS value put together from its fields. -/

namespace Sys2Proof.Machine

variable (e : BitVec 4) (d p v k : Bool) (st : BitVec 8) (c : ErrCode)

@[simp] theorem statusOk_packStatus : statusOk (packStatus e d p v k) = k := by
  simp only [statusOk, packStatus, BitVec.getLsbD_append, BitVec.getLsbD_ofBool]; simp
@[simp] theorem statusRspValid_packStatus : statusRspValid (packStatus e d p v k) = v := by
  simp only [statusRspValid, packStatus, BitVec.getLsbD_append, BitVec.getLsbD_ofBool]; simp
@[simp] theorem statusCrcPresent_packStatus : statusCrcPresent (packStatus e d p v k) = p := by
  simp only [statusCrcPresent, packStatus, BitVec.getLsbD_append, BitVec.getLsbD_ofBool]; simp
@[simp] theorem statusCrcDomain_packStatus : statusCrcDomain (packStatus e d p v k) = d := by
  simp only [statusCrcDomain, packStatus, BitVec.getLsbD_append, BitVec.getLsbD_ofBool]; simp
@[simp] theorem statusErr_packStatus : statusErr (packStatus e d p v k) = e := by
  apply BitVec.eq_of_getLsbD_eq
  intro i hi
  simp only [statusErr, packStatus, BitVec.getLsbD_extractLsb', BitVec.getLsbD_append, hi, decide_true, Bool.true_and]
  simp [show ¬ (4 + i < 1) by omega]

@[simp] theorem statusOk_statusWithOutcome : statusOk (statusWithOutcome st e k) = k := statusOk_packStatus ..
@[simp] theorem statusErr_statusWithOutcome : statusErr (statusWithOutcome st e k) = e := statusErr_packStatus ..
@[simp] theorem statusRspValid_statusWithOutcome : statusRspValid (statusWithOutcome st e k) = statusRspValid st :=
  statusRspValid_packStatus ..
@[simp] theorem statusCrcPresent_statusWithOutcome :
    statusCrcPresent (statusWithOutcome st e k) = statusCrcPresent st := statusCrcPresent_packStatus ..
@[simp] theorem statusCrcDomain_statusWithOutcome :
    statusCrcDomain (statusWithOutcome st e k) = statusCrcDomain st := statusCrcDomain_packStatus ..

/-- No code of a failure is 0. -/
theorem ErrCode.code_ne_zero : c.code ≠ 0#4 := by cases c <;> decide

/-- The codes of two failures differ. -/
theorem ErrCode.code_injective {c d : ErrCode} (h : c.code = d.code) : c = d := by
  cases c <;> cases d <;> first | rfl | exact absurd h (by decide)

end Sys2Proof.Machine
end

