-- ==== Sys2Proof/Laws/Memory.lean ====
section
/-! SUPPORT. A memory is a partial map from indices to written bytes: what a write leaves at every index, that every
memory operation keeps the canonical form, and that equal maps in canonical form are equal data. -/

namespace Sys2Proof.Machine

@[simp] theorem Memory.get?_nil (a : Nat) : Memory.get? [] a = none := rfl

theorem Memory.get?_cons (k : Nat) (v : Byte) (m : Memory) (a : Nat) :
    Memory.get? ((k, v) :: m) a = if k = a then some v else Memory.get? m a := rfl

/-- What a write leaves at every index. -/
theorem Memory.get?_put (m : Memory) (a : Nat) (b : Byte) (c : Nat) :
    (m.put a b).get? c = if c = a then some b else m.get? c := by
  induction m with
  | nil => simp only [Memory.put, Memory.get?_cons, Memory.get?_nil]; grind
  | cons p rest ih =>
    obtain ⟨k, v⟩ := p
    simp only [Memory.put]
    split
    · simp only [Memory.get?_cons]; grind
    · split
      · simp only [Memory.get?_cons]; grind
      · simp only [Memory.get?_cons, ih]; grind

@[simp] theorem Memory.get?_put_same (m : Memory) (a : Nat) (b : Byte) : (m.put a b).get? a = some b := by
  simp [Memory.get?_put]

theorem Memory.get?_put_ne (m : Memory) {a c : Nat} (h : c ≠ a) (b : Byte) : (m.put a b).get? c = m.get? c := by
  simp [Memory.get?_put, h]

/-- What consecutive writes leave at every index. -/
theorem Memory.get?_putAll (bs : List Byte) (m : Memory) (a c : Nat) :
    (m.putAll a bs).get? c = if a ≤ c ∧ c < a + bs.length then bs[c - a]? else m.get? c := by
  induction bs generalizing m a with
  | nil => simp [Memory.putAll]
  | cons b rest ih =>
    rw [Memory.putAll, ih, Memory.get?_put]
    rcases Nat.lt_trichotomy c a with h | h | h
    · have h1 : ¬ (a + 1 ≤ c ∧ c < a + 1 + rest.length) := by omega
      have h2 : ¬ (a ≤ c ∧ c < a + (b :: rest).length) := by omega
      rw [if_neg h1, if_neg h2, if_neg (by omega)]
    · subst h
      simp
    · have h3 : c - a = (c - (a + 1)) + 1 := by omega
      have h4 : c ≠ a := by omega
      simp only [List.length_cons, h4, if_false, h3, List.getElem?_cons_succ]
      by_cases h5 : c < a + 1 + rest.length
      · rw [if_pos ⟨by omega, h5⟩, if_pos ⟨by omega, by omega⟩]
      · rw [if_neg (by omega), if_neg (by omega)]

/-- Every key of a memory after a write is an old key or the written index. -/
theorem Memory.mem_put {m : Memory} {a : Nat} {b : Byte} {p : Host.Cell} (h : p ∈ m.put a b) :
    p ∈ m ∨ p = (a, b) := by
  induction m with
  | nil => simp only [Memory.put, List.mem_singleton] at h; exact .inr h
  | cons q rest ih =>
    obtain ⟨k, v⟩ := q
    simp only [Memory.put] at h
    split at h
    · simp only [List.mem_cons] at h ⊢; tauto
    · split at h
      · simp only [List.mem_cons] at h ⊢; tauto
      · simp only [List.mem_cons] at h ⊢
        rcases h with h | h
        · tauto
        · rcases ih h with h | h <;> tauto

/-- One write keeps the canonical form. -/
theorem Memory.put_wf {m : Memory} (h : m.wf) (a : Nat) (b : Byte) : (m.put a b).wf := by
  induction m with
  | nil => simp [Memory.put, Memory.wf]
  | cons q rest ih =>
    obtain ⟨k, v⟩ := q
    obtain ⟨hk, hr⟩ := List.pairwise_cons.mp h
    simp only [Memory.put]
    split
    case isTrue hlt =>
      refine List.pairwise_cons.mpr ⟨fun p hp => ?_, h⟩
      rcases List.mem_cons.mp hp with rfl | hp
      · exact hlt
      · exact Nat.lt_trans hlt (hk p hp)
    case isFalse hge =>
      split
      case isTrue heq => subst heq; exact List.pairwise_cons.mpr ⟨hk, hr⟩
      case isFalse hne =>
        refine List.pairwise_cons.mpr ⟨fun p hp => ?_, ih hr⟩
        rcases Memory.mem_put hp with hp | rfl
        · exact hk p hp
        · show k < a; omega

/-- Consecutive writes keep the canonical form. -/
theorem Memory.putAll_wf (bs : List Byte) {m : Memory} (h : m.wf) (a : Nat) : (m.putAll a bs).wf := by
  induction bs generalizing m a with
  | nil => exact h
  | cons b rest ih => exact ih (Memory.put_wf h a b) (a + 1)

/-- The memories of the reset state are in canonical form. -/
theorem State.reset_memories_wf (S : Space) : (State.reset.space S).wf := by
  cases S <;> exact List.Pairwise.nil

/-- Consecutive writes below a bound add no index at or past it. -/
theorem Memory.putAll_within {n : Nat} (bs : List Byte) {m : Memory} {a : Nat} (hm : ∀ p ∈ m, p.1 < n)
    (hn : a + bs.length ≤ n) : ∀ p ∈ m.putAll a bs, p.1 < n := by
  induction bs generalizing m a with
  | nil => exact hm
  | cons b rest ih =>
    simp only [List.length_cons] at hn
    refine ih (fun p hp => ?_) (by omega)
    rcases Memory.mem_put hp with hp | rfl
    · exact hm p hp
    · show a < n; omega

/-- An index below every listed one is not listed. -/
theorem Memory.get?_eq_none_of_lt {m : Memory} {a : Nat} (h : ∀ p ∈ m, a < p.1) : m.get? a = none := by
  induction m with
  | nil => rfl
  | cons q rest ih =>
    obtain ⟨k, v⟩ := q
    have hk : a < k := h (k, v) List.mem_cons_self
    rw [Memory.get?_cons, if_neg (by omega)]
    exact ih fun p hp => h p (List.mem_cons_of_mem _ hp)

/-- Memories in canonical form that hold the same bytes are the same data. -/
theorem Memory.ext {m n : Memory} (hm : m.wf) (hn : n.wf) (h : ∀ a, m.get? a = n.get? a) : m = n := by
  induction m generalizing n with
  | nil =>
    cases n with
    | nil => rfl
    | cons q rest => have := h q.1; simp [Memory.get?] at this
  | cons p rest ih =>
    obtain ⟨k, v⟩ := p
    obtain ⟨hk, hr⟩ := List.pairwise_cons.mp hm
    cases n with
    | nil => have := h k; simp [Memory.get?] at this
    | cons q rest' =>
      obtain ⟨k', v'⟩ := q
      obtain ⟨hk', hr'⟩ := List.pairwise_cons.mp hn
      have e : k = k' := by
        rcases Nat.lt_trichotomy k k' with hlt | he | hlt
        · have h0 := h k
          rw [Memory.get?_eq_none_of_lt (m := (k', v') :: rest')] at h0
          · simp [Memory.get?] at h0
          · intro p hp
            rcases List.mem_cons.mp hp with rfl | hp
            · exact hlt
            · exact Nat.lt_trans hlt (hk' p hp)
        · exact he
        · have h0 := h k'
          rw [Memory.get?_eq_none_of_lt (m := (k, v) :: rest)] at h0
          · simp [Memory.get?] at h0
          · intro p hp
            rcases List.mem_cons.mp hp with rfl | hp
            · exact hlt
            · exact Nat.lt_trans hlt (hk p hp)
      subst e
      have hv : v = v' := by have := h k; simpa [Memory.get?] using this
      subst hv
      congr 1
      refine ih hr hr' fun a => ?_
      by_cases ha : k = a
      · subst ha
        rw [Memory.get?_eq_none_of_lt hk, Memory.get?_eq_none_of_lt hk']
      · have := h a
        simpa [Memory.get?, ha] using this

end Sys2Proof.Machine
end

