-- ==== Sys2Proof/Laws/State.lean ====
section
/-! SUPPORT. What each named update leaves in each field of State, true by `rfl`: later proofs use these and do not
unfold a record update. -/

namespace Sys2Proof.Machine

variable (s : State)

@[simp] theorem State.setCrc_config (v : Half) : (s.setCrc v).config = s.config := rfl
@[simp] theorem State.setCrc_sequencer (v : Half) : (s.setCrc v).sequencer = s.sequencer := rfl
@[simp] theorem State.setCrc_epoch (v : Half) : (s.setCrc v).epoch = s.epoch := rfl
@[simp] theorem State.setCrc_pending (v : Half) : (s.setCrc v).pending = s.pending := rfl
@[simp] theorem State.setCrc_reply (v : Half) : (s.setCrc v).reply = s.reply := rfl
@[simp] theorem State.setCrc_status (v : Half) : (s.setCrc v).status = s.status := rfl
@[simp] theorem State.setCrc_cfg (v : Half) : (s.setCrc v).cfg = s.cfg := rfl
@[simp] theorem State.setCrc_crc (v : Half) : (s.setCrc v).crc = v := rfl
@[simp] theorem State.setCrc_reqCmd (v : Half) : (s.setCrc v).reqCmd = s.reqCmd := rfl
@[simp] theorem State.setCrc_reqOpid (v : Half) : (s.setCrc v).reqOpid = s.reqOpid := rfl
@[simp] theorem State.setCrc_reqLen (v : Half) : (s.setCrc v).reqLen = s.reqLen := rfl
@[simp] theorem State.setCrc_txCount (v : Half) : (s.setCrc v).txCount = s.txCount := rfl
@[simp] theorem State.setCrc_rxCount (v : Half) : (s.setCrc v).rxCount = s.rxCount := rfl
@[simp] theorem State.setCrc_rspCmd (v : Half) : (s.setCrc v).rspCmd = s.rspCmd := rfl
@[simp] theorem State.setCrc_rspOpid (v : Half) : (s.setCrc v).rspOpid = s.rspOpid := rfl
@[simp] theorem State.setCrc_rspLen (v : Half) : (s.setCrc v).rspLen = s.rspLen := rfl
@[simp] theorem State.setCrc_reqPayload (v : Half) : (s.setCrc v).reqPayload = s.reqPayload := rfl
@[simp] theorem State.setCrc_txBuf (v : Half) : (s.setCrc v).txBuf = s.txBuf := rfl
@[simp] theorem State.setCrc_rxBuf (v : Half) : (s.setCrc v).rxBuf = s.rxBuf := rfl
@[simp] theorem State.setCrc_rspPayload (v : Half) : (s.setCrc v).rspPayload = s.rspPayload := rfl

@[simp] theorem State.setStatus_config (v : BitVec 8) : (s.setStatus v).config = s.config := rfl
@[simp] theorem State.setStatus_sequencer (v : BitVec 8) : (s.setStatus v).sequencer = s.sequencer := rfl
@[simp] theorem State.setStatus_epoch (v : BitVec 8) : (s.setStatus v).epoch = s.epoch := rfl
@[simp] theorem State.setStatus_pending (v : BitVec 8) : (s.setStatus v).pending = s.pending := rfl
@[simp] theorem State.setStatus_reply (v : BitVec 8) : (s.setStatus v).reply = s.reply := rfl
@[simp] theorem State.setStatus_status (v : BitVec 8) : (s.setStatus v).status = v := rfl
@[simp] theorem State.setStatus_cfg (v : BitVec 8) : (s.setStatus v).cfg = s.cfg := rfl
@[simp] theorem State.setStatus_crc (v : BitVec 8) : (s.setStatus v).crc = s.crc := rfl
@[simp] theorem State.setStatus_reqCmd (v : BitVec 8) : (s.setStatus v).reqCmd = s.reqCmd := rfl
@[simp] theorem State.setStatus_reqOpid (v : BitVec 8) : (s.setStatus v).reqOpid = s.reqOpid := rfl
@[simp] theorem State.setStatus_reqLen (v : BitVec 8) : (s.setStatus v).reqLen = s.reqLen := rfl
@[simp] theorem State.setStatus_txCount (v : BitVec 8) : (s.setStatus v).txCount = s.txCount := rfl
@[simp] theorem State.setStatus_rxCount (v : BitVec 8) : (s.setStatus v).rxCount = s.rxCount := rfl
@[simp] theorem State.setStatus_rspCmd (v : BitVec 8) : (s.setStatus v).rspCmd = s.rspCmd := rfl
@[simp] theorem State.setStatus_rspOpid (v : BitVec 8) : (s.setStatus v).rspOpid = s.rspOpid := rfl
@[simp] theorem State.setStatus_rspLen (v : BitVec 8) : (s.setStatus v).rspLen = s.rspLen := rfl
@[simp] theorem State.setStatus_reqPayload (v : BitVec 8) : (s.setStatus v).reqPayload = s.reqPayload := rfl
@[simp] theorem State.setStatus_txBuf (v : BitVec 8) : (s.setStatus v).txBuf = s.txBuf := rfl
@[simp] theorem State.setStatus_rxBuf (v : BitVec 8) : (s.setStatus v).rxBuf = s.rxBuf := rfl
@[simp] theorem State.setStatus_rspPayload (v : BitVec 8) : (s.setStatus v).rspPayload = s.rspPayload := rfl

@[simp] theorem State.setTxCount_config (v : BitVec 9) : (s.setTxCount v).config = s.config := rfl
@[simp] theorem State.setTxCount_sequencer (v : BitVec 9) : (s.setTxCount v).sequencer = s.sequencer := rfl
@[simp] theorem State.setTxCount_epoch (v : BitVec 9) : (s.setTxCount v).epoch = s.epoch := rfl
@[simp] theorem State.setTxCount_pending (v : BitVec 9) : (s.setTxCount v).pending = s.pending := rfl
@[simp] theorem State.setTxCount_reply (v : BitVec 9) : (s.setTxCount v).reply = s.reply := rfl
@[simp] theorem State.setTxCount_status (v : BitVec 9) : (s.setTxCount v).status = s.status := rfl
@[simp] theorem State.setTxCount_cfg (v : BitVec 9) : (s.setTxCount v).cfg = s.cfg := rfl
@[simp] theorem State.setTxCount_crc (v : BitVec 9) : (s.setTxCount v).crc = s.crc := rfl
@[simp] theorem State.setTxCount_reqCmd (v : BitVec 9) : (s.setTxCount v).reqCmd = s.reqCmd := rfl
@[simp] theorem State.setTxCount_reqOpid (v : BitVec 9) : (s.setTxCount v).reqOpid = s.reqOpid := rfl
@[simp] theorem State.setTxCount_reqLen (v : BitVec 9) : (s.setTxCount v).reqLen = s.reqLen := rfl
@[simp] theorem State.setTxCount_txCount (v : BitVec 9) : (s.setTxCount v).txCount = v := rfl
@[simp] theorem State.setTxCount_rxCount (v : BitVec 9) : (s.setTxCount v).rxCount = s.rxCount := rfl
@[simp] theorem State.setTxCount_rspCmd (v : BitVec 9) : (s.setTxCount v).rspCmd = s.rspCmd := rfl
@[simp] theorem State.setTxCount_rspOpid (v : BitVec 9) : (s.setTxCount v).rspOpid = s.rspOpid := rfl
@[simp] theorem State.setTxCount_rspLen (v : BitVec 9) : (s.setTxCount v).rspLen = s.rspLen := rfl
@[simp] theorem State.setTxCount_reqPayload (v : BitVec 9) : (s.setTxCount v).reqPayload = s.reqPayload := rfl
@[simp] theorem State.setTxCount_txBuf (v : BitVec 9) : (s.setTxCount v).txBuf = s.txBuf := rfl
@[simp] theorem State.setTxCount_rxBuf (v : BitVec 9) : (s.setTxCount v).rxBuf = s.rxBuf := rfl
@[simp] theorem State.setTxCount_rspPayload (v : BitVec 9) : (s.setTxCount v).rspPayload = s.rspPayload := rfl

@[simp] theorem State.setRsp_config (c : Half) (o l : Byte) : (s.setRsp c o l).config = s.config := rfl
@[simp] theorem State.setRsp_sequencer (c : Half) (o l : Byte) : (s.setRsp c o l).sequencer = s.sequencer := rfl
@[simp] theorem State.setRsp_epoch (c : Half) (o l : Byte) : (s.setRsp c o l).epoch = s.epoch := rfl
@[simp] theorem State.setRsp_pending (c : Half) (o l : Byte) : (s.setRsp c o l).pending = s.pending := rfl
@[simp] theorem State.setRsp_reply (c : Half) (o l : Byte) : (s.setRsp c o l).reply = s.reply := rfl
@[simp] theorem State.setRsp_status (c : Half) (o l : Byte) : (s.setRsp c o l).status = s.status := rfl
@[simp] theorem State.setRsp_cfg (c : Half) (o l : Byte) : (s.setRsp c o l).cfg = s.cfg := rfl
@[simp] theorem State.setRsp_crc (c : Half) (o l : Byte) : (s.setRsp c o l).crc = s.crc := rfl
@[simp] theorem State.setRsp_reqCmd (c : Half) (o l : Byte) : (s.setRsp c o l).reqCmd = s.reqCmd := rfl
@[simp] theorem State.setRsp_reqOpid (c : Half) (o l : Byte) : (s.setRsp c o l).reqOpid = s.reqOpid := rfl
@[simp] theorem State.setRsp_reqLen (c : Half) (o l : Byte) : (s.setRsp c o l).reqLen = s.reqLen := rfl
@[simp] theorem State.setRsp_txCount (c : Half) (o l : Byte) : (s.setRsp c o l).txCount = s.txCount := rfl
@[simp] theorem State.setRsp_rxCount (c : Half) (o l : Byte) : (s.setRsp c o l).rxCount = s.rxCount := rfl
@[simp] theorem State.setRsp_rspCmd (c : Half) (o l : Byte) : (s.setRsp c o l).rspCmd = c := rfl
@[simp] theorem State.setRsp_rspOpid (c : Half) (o l : Byte) : (s.setRsp c o l).rspOpid = o := rfl
@[simp] theorem State.setRsp_rspLen (c : Half) (o l : Byte) : (s.setRsp c o l).rspLen = l := rfl
@[simp] theorem State.setRsp_reqPayload (c : Half) (o l : Byte) : (s.setRsp c o l).reqPayload = s.reqPayload := rfl
@[simp] theorem State.setRsp_txBuf (c : Half) (o l : Byte) : (s.setRsp c o l).txBuf = s.txBuf := rfl
@[simp] theorem State.setRsp_rxBuf (c : Half) (o l : Byte) : (s.setRsp c o l).rxBuf = s.rxBuf := rfl
@[simp] theorem State.setRsp_rspPayload (c : Half) (o l : Byte) : (s.setRsp c o l).rspPayload = s.rspPayload := rfl

@[simp] theorem State.setSequencer_config (q : Sequencer) : (s.setSequencer q).config = s.config := rfl
@[simp] theorem State.setSequencer_sequencer (q : Sequencer) : (s.setSequencer q).sequencer = q := rfl
@[simp] theorem State.setSequencer_epoch (q : Sequencer) : (s.setSequencer q).epoch = s.epoch := rfl
@[simp] theorem State.setSequencer_pending (q : Sequencer) : (s.setSequencer q).pending = s.pending := rfl
@[simp] theorem State.setSequencer_reply (q : Sequencer) : (s.setSequencer q).reply = s.reply := rfl
@[simp] theorem State.setSequencer_status (q : Sequencer) : (s.setSequencer q).status = s.status := rfl
@[simp] theorem State.setSequencer_cfg (q : Sequencer) : (s.setSequencer q).cfg = s.cfg := rfl
@[simp] theorem State.setSequencer_crc (q : Sequencer) : (s.setSequencer q).crc = s.crc := rfl
@[simp] theorem State.setSequencer_reqCmd (q : Sequencer) : (s.setSequencer q).reqCmd = s.reqCmd := rfl
@[simp] theorem State.setSequencer_reqOpid (q : Sequencer) : (s.setSequencer q).reqOpid = s.reqOpid := rfl
@[simp] theorem State.setSequencer_reqLen (q : Sequencer) : (s.setSequencer q).reqLen = s.reqLen := rfl
@[simp] theorem State.setSequencer_txCount (q : Sequencer) : (s.setSequencer q).txCount = s.txCount := rfl
@[simp] theorem State.setSequencer_rxCount (q : Sequencer) : (s.setSequencer q).rxCount = s.rxCount := rfl
@[simp] theorem State.setSequencer_rspCmd (q : Sequencer) : (s.setSequencer q).rspCmd = s.rspCmd := rfl
@[simp] theorem State.setSequencer_rspOpid (q : Sequencer) : (s.setSequencer q).rspOpid = s.rspOpid := rfl
@[simp] theorem State.setSequencer_rspLen (q : Sequencer) : (s.setSequencer q).rspLen = s.rspLen := rfl
@[simp] theorem State.setSequencer_reqPayload (q : Sequencer) : (s.setSequencer q).reqPayload = s.reqPayload := rfl
@[simp] theorem State.setSequencer_txBuf (q : Sequencer) : (s.setSequencer q).txBuf = s.txBuf := rfl
@[simp] theorem State.setSequencer_rxBuf (q : Sequencer) : (s.setSequencer q).rxBuf = s.rxBuf := rfl
@[simp] theorem State.setSequencer_rspPayload (q : Sequencer) : (s.setSequencer q).rspPayload = s.rspPayload := rfl

@[simp] theorem State.setReply_config (r : Reply) : (s.setReply r).config = s.config := rfl
@[simp] theorem State.setReply_sequencer (r : Reply) : (s.setReply r).sequencer = s.sequencer := rfl
@[simp] theorem State.setReply_epoch (r : Reply) : (s.setReply r).epoch = s.epoch := rfl
@[simp] theorem State.setReply_pending (r : Reply) : (s.setReply r).pending = s.pending := rfl
@[simp] theorem State.setReply_reply (r : Reply) : (s.setReply r).reply = r := rfl
@[simp] theorem State.setReply_status (r : Reply) : (s.setReply r).status = s.status := rfl
@[simp] theorem State.setReply_cfg (r : Reply) : (s.setReply r).cfg = s.cfg := rfl
@[simp] theorem State.setReply_crc (r : Reply) : (s.setReply r).crc = s.crc := rfl
@[simp] theorem State.setReply_reqCmd (r : Reply) : (s.setReply r).reqCmd = s.reqCmd := rfl
@[simp] theorem State.setReply_reqOpid (r : Reply) : (s.setReply r).reqOpid = s.reqOpid := rfl
@[simp] theorem State.setReply_reqLen (r : Reply) : (s.setReply r).reqLen = s.reqLen := rfl
@[simp] theorem State.setReply_txCount (r : Reply) : (s.setReply r).txCount = s.txCount := rfl
@[simp] theorem State.setReply_rxCount (r : Reply) : (s.setReply r).rxCount = s.rxCount := rfl
@[simp] theorem State.setReply_rspCmd (r : Reply) : (s.setReply r).rspCmd = s.rspCmd := rfl
@[simp] theorem State.setReply_rspOpid (r : Reply) : (s.setReply r).rspOpid = s.rspOpid := rfl
@[simp] theorem State.setReply_rspLen (r : Reply) : (s.setReply r).rspLen = s.rspLen := rfl
@[simp] theorem State.setReply_reqPayload (r : Reply) : (s.setReply r).reqPayload = s.reqPayload := rfl
@[simp] theorem State.setReply_txBuf (r : Reply) : (s.setReply r).txBuf = s.txBuf := rfl
@[simp] theorem State.setReply_rxBuf (r : Reply) : (s.setReply r).rxBuf = s.rxBuf := rfl
@[simp] theorem State.setReply_rspPayload (r : Reply) : (s.setReply r).rspPayload = s.rspPayload := rfl

@[simp] theorem State.takeMove_config (rest : List HostMove) : (s.takeMove rest).config = s.config := rfl
@[simp] theorem State.takeMove_sequencer (rest : List HostMove) : (s.takeMove rest).sequencer = s.sequencer := rfl
@[simp] theorem State.takeMove_epoch (rest : List HostMove) : (s.takeMove rest).epoch = s.epoch := rfl
@[simp] theorem State.takeMove_pending (rest : List HostMove) : (s.takeMove rest).pending = rest := rfl
@[simp] theorem State.takeMove_reply (rest : List HostMove) : (s.takeMove rest).reply = .none := rfl
@[simp] theorem State.takeMove_status (rest : List HostMove) : (s.takeMove rest).status = s.status := rfl
@[simp] theorem State.takeMove_cfg (rest : List HostMove) : (s.takeMove rest).cfg = s.cfg := rfl
@[simp] theorem State.takeMove_crc (rest : List HostMove) : (s.takeMove rest).crc = s.crc := rfl
@[simp] theorem State.takeMove_reqCmd (rest : List HostMove) : (s.takeMove rest).reqCmd = s.reqCmd := rfl
@[simp] theorem State.takeMove_reqOpid (rest : List HostMove) : (s.takeMove rest).reqOpid = s.reqOpid := rfl
@[simp] theorem State.takeMove_reqLen (rest : List HostMove) : (s.takeMove rest).reqLen = s.reqLen := rfl
@[simp] theorem State.takeMove_txCount (rest : List HostMove) : (s.takeMove rest).txCount = s.txCount := rfl
@[simp] theorem State.takeMove_rxCount (rest : List HostMove) : (s.takeMove rest).rxCount = s.rxCount := rfl
@[simp] theorem State.takeMove_rspCmd (rest : List HostMove) : (s.takeMove rest).rspCmd = s.rspCmd := rfl
@[simp] theorem State.takeMove_rspOpid (rest : List HostMove) : (s.takeMove rest).rspOpid = s.rspOpid := rfl
@[simp] theorem State.takeMove_rspLen (rest : List HostMove) : (s.takeMove rest).rspLen = s.rspLen := rfl
@[simp] theorem State.takeMove_reqPayload (rest : List HostMove) : (s.takeMove rest).reqPayload = s.reqPayload := rfl
@[simp] theorem State.takeMove_txBuf (rest : List HostMove) : (s.takeMove rest).txBuf = s.txBuf := rfl
@[simp] theorem State.takeMove_rxBuf (rest : List HostMove) : (s.takeMove rest).rxBuf = s.rxBuf := rfl
@[simp] theorem State.takeMove_rspPayload (rest : List HostMove) : (s.takeMove rest).rspPayload = s.rspPayload := rfl

@[simp] theorem State.resetRegisters_config : s.resetRegisters.config = s.config := rfl
@[simp] theorem State.resetRegisters_sequencer : s.resetRegisters.sequencer = Sequencer.idle := rfl
@[simp] theorem State.resetRegisters_epoch : s.resetRegisters.epoch = s.epoch := rfl
@[simp] theorem State.resetRegisters_pending : s.resetRegisters.pending = s.pending := rfl
@[simp] theorem State.resetRegisters_reply : s.resetRegisters.reply = s.reply := rfl
@[simp] theorem State.resetRegisters_status : s.resetRegisters.status = 0x00#8 := rfl
@[simp] theorem State.resetRegisters_cfg : s.resetRegisters.cfg = 1#1 := rfl
@[simp] theorem State.resetRegisters_crc : s.resetRegisters.crc = 0xFFFF#16 := rfl
@[simp] theorem State.resetRegisters_reqCmd : s.resetRegisters.reqCmd = 0x0000#16 := rfl
@[simp] theorem State.resetRegisters_reqOpid : s.resetRegisters.reqOpid = 0x00#8 := rfl
@[simp] theorem State.resetRegisters_reqLen : s.resetRegisters.reqLen = 0x00#8 := rfl
@[simp] theorem State.resetRegisters_txCount : s.resetRegisters.txCount = 0#9 := rfl
@[simp] theorem State.resetRegisters_rxCount : s.resetRegisters.rxCount = 0x0000#16 := rfl
@[simp] theorem State.resetRegisters_rspCmd : s.resetRegisters.rspCmd = 0x0000#16 := rfl
@[simp] theorem State.resetRegisters_rspOpid : s.resetRegisters.rspOpid = 0x00#8 := rfl
@[simp] theorem State.resetRegisters_rspLen : s.resetRegisters.rspLen = 0x00#8 := rfl
@[simp] theorem State.resetRegisters_reqPayload : s.resetRegisters.reqPayload = s.reqPayload := rfl
@[simp] theorem State.resetRegisters_txBuf : s.resetRegisters.txBuf = s.txBuf := rfl
@[simp] theorem State.resetRegisters_rxBuf : s.resetRegisters.rxBuf = s.rxBuf := rfl
@[simp] theorem State.resetRegisters_rspPayload : s.resetRegisters.rspPayload = s.rspPayload := rfl

@[simp] theorem State.clearMemories_config : s.clearMemories.config = s.config := rfl
@[simp] theorem State.clearMemories_sequencer : s.clearMemories.sequencer = s.sequencer := rfl
@[simp] theorem State.clearMemories_epoch : s.clearMemories.epoch = s.epoch + 1 := rfl
@[simp] theorem State.clearMemories_pending : s.clearMemories.pending = s.pending := rfl
@[simp] theorem State.clearMemories_reply : s.clearMemories.reply = s.reply := rfl
@[simp] theorem State.clearMemories_status : s.clearMemories.status = s.status := rfl
@[simp] theorem State.clearMemories_cfg : s.clearMemories.cfg = s.cfg := rfl
@[simp] theorem State.clearMemories_crc : s.clearMemories.crc = s.crc := rfl
@[simp] theorem State.clearMemories_reqCmd : s.clearMemories.reqCmd = s.reqCmd := rfl
@[simp] theorem State.clearMemories_reqOpid : s.clearMemories.reqOpid = s.reqOpid := rfl
@[simp] theorem State.clearMemories_reqLen : s.clearMemories.reqLen = s.reqLen := rfl
@[simp] theorem State.clearMemories_txCount : s.clearMemories.txCount = s.txCount := rfl
@[simp] theorem State.clearMemories_rxCount : s.clearMemories.rxCount = s.rxCount := rfl
@[simp] theorem State.clearMemories_rspCmd : s.clearMemories.rspCmd = s.rspCmd := rfl
@[simp] theorem State.clearMemories_rspOpid : s.clearMemories.rspOpid = s.rspOpid := rfl
@[simp] theorem State.clearMemories_rspLen : s.clearMemories.rspLen = s.rspLen := rfl
@[simp] theorem State.clearMemories_reqPayload : s.clearMemories.reqPayload = [] := rfl
@[simp] theorem State.clearMemories_txBuf : s.clearMemories.txBuf = [] := rfl
@[simp] theorem State.clearMemories_rxBuf : s.clearMemories.rxBuf = [] := rfl
@[simp] theorem State.clearMemories_rspPayload : s.clearMemories.rspPayload = [] := rfl

@[simp] theorem State.setSpace_config (S : Space) (m : Memory) : (s.setSpace S m).config = s.config := by cases S <;> rfl
@[simp] theorem State.setSpace_sequencer (S : Space) (m : Memory) : (s.setSpace S m).sequencer = s.sequencer := by cases S <;> rfl
@[simp] theorem State.setSpace_epoch (S : Space) (m : Memory) : (s.setSpace S m).epoch = s.epoch := by cases S <;> rfl
@[simp] theorem State.setSpace_pending (S : Space) (m : Memory) : (s.setSpace S m).pending = s.pending := by cases S <;> rfl
@[simp] theorem State.setSpace_reply (S : Space) (m : Memory) : (s.setSpace S m).reply = s.reply := by cases S <;> rfl
@[simp] theorem State.setSpace_status (S : Space) (m : Memory) : (s.setSpace S m).status = s.status := by cases S <;> rfl
@[simp] theorem State.setSpace_cfg (S : Space) (m : Memory) : (s.setSpace S m).cfg = s.cfg := by cases S <;> rfl
@[simp] theorem State.setSpace_crc (S : Space) (m : Memory) : (s.setSpace S m).crc = s.crc := by cases S <;> rfl
@[simp] theorem State.setSpace_reqCmd (S : Space) (m : Memory) : (s.setSpace S m).reqCmd = s.reqCmd := by cases S <;> rfl
@[simp] theorem State.setSpace_reqOpid (S : Space) (m : Memory) : (s.setSpace S m).reqOpid = s.reqOpid := by cases S <;> rfl
@[simp] theorem State.setSpace_reqLen (S : Space) (m : Memory) : (s.setSpace S m).reqLen = s.reqLen := by cases S <;> rfl
@[simp] theorem State.setSpace_txCount (S : Space) (m : Memory) : (s.setSpace S m).txCount = s.txCount := by cases S <;> rfl
@[simp] theorem State.setSpace_rxCount (S : Space) (m : Memory) : (s.setSpace S m).rxCount = s.rxCount := by cases S <;> rfl
@[simp] theorem State.setSpace_rspCmd (S : Space) (m : Memory) : (s.setSpace S m).rspCmd = s.rspCmd := by cases S <;> rfl
@[simp] theorem State.setSpace_rspOpid (S : Space) (m : Memory) : (s.setSpace S m).rspOpid = s.rspOpid := by cases S <;> rfl
@[simp] theorem State.setSpace_rspLen (S : Space) (m : Memory) : (s.setSpace S m).rspLen = s.rspLen := by cases S <;> rfl

@[simp] theorem State.storeBytes_config (S : Space) (bs : List Byte) : (s.storeBytes S bs).config = s.config := by cases S <;> rfl
@[simp] theorem State.storeBytes_sequencer (S : Space) (bs : List Byte) : (s.storeBytes S bs).sequencer = s.sequencer := by cases S <;> rfl
@[simp] theorem State.storeBytes_epoch (S : Space) (bs : List Byte) : (s.storeBytes S bs).epoch = s.epoch := by cases S <;> rfl
@[simp] theorem State.storeBytes_pending (S : Space) (bs : List Byte) : (s.storeBytes S bs).pending = s.pending := by cases S <;> rfl
@[simp] theorem State.storeBytes_reply (S : Space) (bs : List Byte) : (s.storeBytes S bs).reply = s.reply := by cases S <;> rfl
@[simp] theorem State.storeBytes_status (S : Space) (bs : List Byte) : (s.storeBytes S bs).status = s.status := by cases S <;> rfl
@[simp] theorem State.storeBytes_cfg (S : Space) (bs : List Byte) : (s.storeBytes S bs).cfg = s.cfg := by cases S <;> rfl
@[simp] theorem State.storeBytes_crc (S : Space) (bs : List Byte) : (s.storeBytes S bs).crc = s.crc := by cases S <;> rfl
@[simp] theorem State.storeBytes_reqCmd (S : Space) (bs : List Byte) : (s.storeBytes S bs).reqCmd = s.reqCmd := by cases S <;> rfl
@[simp] theorem State.storeBytes_reqOpid (S : Space) (bs : List Byte) : (s.storeBytes S bs).reqOpid = s.reqOpid := by cases S <;> rfl
@[simp] theorem State.storeBytes_reqLen (S : Space) (bs : List Byte) : (s.storeBytes S bs).reqLen = s.reqLen := by cases S <;> rfl
@[simp] theorem State.storeBytes_txCount (S : Space) (bs : List Byte) : (s.storeBytes S bs).txCount = s.txCount := by cases S <;> rfl
@[simp] theorem State.storeBytes_rxCount (S : Space) (bs : List Byte) : (s.storeBytes S bs).rxCount = s.rxCount := by cases S <;> rfl
@[simp] theorem State.storeBytes_rspCmd (S : Space) (bs : List Byte) : (s.storeBytes S bs).rspCmd = s.rspCmd := by cases S <;> rfl
@[simp] theorem State.storeBytes_rspOpid (S : Space) (bs : List Byte) : (s.storeBytes S bs).rspOpid = s.rspOpid := by cases S <;> rfl
@[simp] theorem State.storeBytes_rspLen (S : Space) (bs : List Byte) : (s.storeBytes S bs).rspLen = s.rspLen := by cases S <;> rfl

@[simp] theorem State.writeRegValue_config (r : Reg) (v : Word32) : (s.writeRegValue r v).config = s.config := by cases r <;> rfl
@[simp] theorem State.writeRegValue_sequencer (r : Reg) (v : Word32) : (s.writeRegValue r v).sequencer = s.sequencer := by cases r <;> rfl
@[simp] theorem State.writeRegValue_epoch (r : Reg) (v : Word32) : (s.writeRegValue r v).epoch = s.epoch := by cases r <;> rfl
@[simp] theorem State.writeRegValue_pending (r : Reg) (v : Word32) : (s.writeRegValue r v).pending = s.pending := by cases r <;> rfl
@[simp] theorem State.writeRegValue_reply (r : Reg) (v : Word32) : (s.writeRegValue r v).reply = s.reply := by cases r <;> rfl
@[simp] theorem State.writeRegValue_status (r : Reg) (v : Word32) : (s.writeRegValue r v).status = s.status := by cases r <;> rfl
@[simp] theorem State.writeRegValue_crc (r : Reg) (v : Word32) : (s.writeRegValue r v).crc = s.crc := by cases r <;> rfl
@[simp] theorem State.writeRegValue_txCount (r : Reg) (v : Word32) : (s.writeRegValue r v).txCount = s.txCount := by cases r <;> rfl
@[simp] theorem State.writeRegValue_rspCmd (r : Reg) (v : Word32) : (s.writeRegValue r v).rspCmd = s.rspCmd := by cases r <;> rfl
@[simp] theorem State.writeRegValue_rspOpid (r : Reg) (v : Word32) : (s.writeRegValue r v).rspOpid = s.rspOpid := by cases r <;> rfl
@[simp] theorem State.writeRegValue_rspLen (r : Reg) (v : Word32) : (s.writeRegValue r v).rspLen = s.rspLen := by cases r <;> rfl
@[simp] theorem State.writeRegValue_reqPayload (r : Reg) (v : Word32) : (s.writeRegValue r v).reqPayload = s.reqPayload := by cases r <;> rfl
@[simp] theorem State.writeRegValue_txBuf (r : Reg) (v : Word32) : (s.writeRegValue r v).txBuf = s.txBuf := by cases r <;> rfl
@[simp] theorem State.writeRegValue_rxBuf (r : Reg) (v : Word32) : (s.writeRegValue r v).rxBuf = s.rxBuf := by cases r <;> rfl
@[simp] theorem State.writeRegValue_rspPayload (r : Reg) (v : Word32) : (s.writeRegValue r v).rspPayload = s.rspPayload := by cases r <;> rfl

@[simp] theorem State.setCrc_space (v : Half) (S : Space) : (s.setCrc v).space S = s.space S := by cases S <;> rfl
@[simp] theorem State.setStatus_space (v : BitVec 8) (S : Space) : (s.setStatus v).space S = s.space S := by cases S <;> rfl
@[simp] theorem State.setTxCount_space (v : BitVec 9) (S : Space) : (s.setTxCount v).space S = s.space S := by cases S <;> rfl
@[simp] theorem State.setRsp_space (c : Half) (o l : Byte) (S : Space) : (s.setRsp c o l).space S = s.space S := by cases S <;> rfl
@[simp] theorem State.setSequencer_space (q : Sequencer) (S : Space) : (s.setSequencer q).space S = s.space S := by cases S <;> rfl
@[simp] theorem State.setReply_space (r : Reply) (S : Space) : (s.setReply r).space S = s.space S := by cases S <;> rfl
@[simp] theorem State.takeMove_space (rest : List HostMove) (S : Space) : (s.takeMove rest).space S = s.space S := by cases S <;> rfl
@[simp] theorem State.resetRegisters_space (S : Space) : s.resetRegisters.space S = s.space S := by cases S <;> rfl
@[simp] theorem State.clearMemories_space (S : Space) : s.clearMemories.space S = [] := by cases S <;> rfl
@[simp] theorem State.writeRegValue_space (r : Reg) (v : Word32) (S : Space) : (s.writeRegValue r v).space S = s.space S := by
  cases r <;> cases S <;> rfl
@[simp] theorem State.setSpace_space_same (S : Space) (m : Memory) : (s.setSpace S m).space S = m := by cases S <;> rfl
@[simp] theorem State.setSpace_space_ne {S T : Space} (h : T ≠ S) (m : Memory) : (s.setSpace S m).space T = s.space T := by
  cases S <;> cases T <;> first | rfl | exact absurd rfl h
@[simp] theorem State.storeBytes_space_same (S : Space) (bs : List Byte) :
    (s.storeBytes S bs).space S = (s.space S).putAll 0 bs := by cases S <;> rfl
@[simp] theorem State.storeBytes_space_ne {S T : Space} (h : T ≠ S) (bs : List Byte) :
    (s.storeBytes S bs).space T = s.space T := by cases S <;> cases T <;> first | rfl | exact absurd rfl h
@[simp] theorem State.setSpace_self (S : Space) : s.setSpace S (s.space S) = s := by cases S <;> rfl
@[simp] theorem State.space_reqPayload : s.space .reqPayload = s.reqPayload := rfl
@[simp] theorem State.space_txBuf : s.space .txBuf = s.txBuf := rfl
@[simp] theorem State.space_rxBuf : s.space .rxBuf = s.rxBuf := rfl
@[simp] theorem State.space_rspPayload : s.space .rspPayload = s.rspPayload := rfl

end Sys2Proof.Machine
end

