-- ==== Sys2Proof/Laws/Ops.lean ====
section
/-! SUPPORT. What each shared operation can do, said once: a read of a byte sees the parameter, the reset number and the
space's memory; a store changes the bytes it stores; the ends of a command change STATUS only. -/

namespace Sys2Proof.Machine

variable (s : State)

/-- A read depends on nothing but the parameter, the reset number and the space's memory. -/
theorem State.readByte_congr {s t : State} {S : Space} (hc : t.config = s.config) (he : t.epoch = s.epoch)
    (hm : t.space S = s.space S) (a : Nat) : t.readByte S a = s.readByte S a := by
  simp only [State.readByte, hc, he, hm]

@[simp] theorem State.setCrc_readByte (v : Half) (S : Space) (a : Nat) : (s.setCrc v).readByte S a = s.readByte S a :=
  readByte_congr rfl rfl (by simp) a
@[simp] theorem State.setStatus_readByte (v : BitVec 8) (S : Space) (a : Nat) :
    (s.setStatus v).readByte S a = s.readByte S a := readByte_congr rfl rfl (by simp) a
@[simp] theorem State.setTxCount_readByte (v : BitVec 9) (S : Space) (a : Nat) :
    (s.setTxCount v).readByte S a = s.readByte S a := readByte_congr rfl rfl (by simp) a
@[simp] theorem State.setRsp_readByte (c : Half) (o l : Byte) (S : Space) (a : Nat) :
    (s.setRsp c o l).readByte S a = s.readByte S a := readByte_congr rfl rfl (by simp) a
@[simp] theorem State.setSequencer_readByte (q : Sequencer) (S : Space) (a : Nat) :
    (s.setSequencer q).readByte S a = s.readByte S a := readByte_congr rfl rfl (by simp) a
@[simp] theorem State.setReply_readByte (r : Reply) (S : Space) (a : Nat) :
    (s.setReply r).readByte S a = s.readByte S a := readByte_congr rfl rfl (by simp) a
@[simp] theorem State.takeMove_readByte (rest : List HostMove) (S : Space) (a : Nat) :
    (s.takeMove rest).readByte S a = s.readByte S a := readByte_congr rfl rfl (by simp) a
@[simp] theorem State.resetRegisters_readByte (S : Space) (a : Nat) :
    s.resetRegisters.readByte S a = s.readByte S a := readByte_congr rfl rfl (by simp) a
@[simp] theorem State.writeRegValue_readByte (r : Reg) (v : Word32) (S : Space) (a : Nat) :
    (s.writeRegValue r v).readByte S a = s.readByte S a := readByte_congr (by simp) (by simp) (by simp) a

/-- A byte past the end of its space reads 0. -/
theorem State.readByte_past {S : Space} {a : Nat} (h : spaceSize s.config S ≤ a) : s.readByte S a = 0x00#8 :=
  if_neg (by omega)

/-- A byte of a space after another memory is put in some space's place. -/
theorem State.readByte_setSpace_ne {S T : Space} (h : T ≠ S) (m : Memory) (a : Nat) :
    (s.setSpace S m).readByte T a = s.readByte T a := readByte_congr (by simp) (by simp) (by simp [h]) a

/-- What a write of one byte leaves at every index of every space. -/
theorem State.readByte_writeByte (S : Space) (a : Nat) (b : Byte) (T : Space) (c : Nat) :
    (s.writeByte S a b).readByte T c
      = if T = S ∧ c = a ∧ a < spaceSize s.config S then b else s.readByte T c := by
  unfold State.writeByte
  by_cases ha : a < spaceSize s.config S
  · rw [if_pos ha]
    by_cases hT : T = S
    · subst hT
      by_cases hc : c = a
      · subst hc; simp [State.readByte, ha]
      · simp [State.readByte, hc, Memory.get?_put_ne]
    · rw [State.readByte_setSpace_ne s hT]; simp [hT]
  · rw [if_neg ha]; simp [ha]

/-- What a store of a byte sequence from index 0 leaves at every index of every space. -/
theorem State.readByte_storeBytes (S : Space) (bs : List Byte) (T : Space) (c : Nat) :
    (s.storeBytes S bs).readByte T c
      = if T = S ∧ c < bs.length ∧ c < spaceSize s.config S then bs.getD c 0x00#8 else s.readByte T c := by
  unfold State.storeBytes
  by_cases hT : T = S
  · subst hT
    by_cases hc : c < bs.length
    · by_cases hs : c < spaceSize s.config T
      · simp [State.readByte, Memory.get?_putAll, hc, hs]
      · simp [State.readByte, hs]
    · simp [State.readByte, Memory.get?_putAll, hc]
  · rw [State.readByte_setSpace_ne s hT]; simp [hT]

/-- The two stores of a command, as a store of bytes and the registers beside it. -/
@[simp] theorem State.storeFrame_eq (F : List Byte) :
    s.storeFrame F = (s.storeBytes .txBuf F).setTxCount (BitVec.ofNat 9 F.length) := rfl
@[simp] theorem State.commitResponse_eq (cmd : Half) (opid : Byte) (P : List Byte) :
    s.commitResponse cmd opid P = (s.storeBytes .rspPayload P).setRsp cmd opid (BitVec.ofNat 8 P.length) := rfl

@[simp] theorem State.firstBytes_length (S : Space) (n : Nat) : (s.firstBytes S n).length = n := by
  simp [State.firstBytes]

@[simp] theorem State.firstBytes_getElem (S : Space) (n a : Nat) (h : a < (s.firstBytes S n).length) :
    (s.firstBytes S n)[a] = s.readByte S a := by simp [State.firstBytes]

theorem State.firstBytes_getElem? (S : Space) (n a : Nat) :
    (s.firstBytes S n)[a]? = if a < n then some (s.readByte S a) else none := by
  by_cases h : a < n <;> simp [State.firstBytes, h]

theorem State.firstBytes_getD {n a : Nat} (S : Space) (h : a < n) :
    (s.firstBytes S n).getD a 0x00#8 = s.readByte S a := by
  rw [List.getD_eq_getElem?_getD, State.firstBytes_getElem?, if_pos h]; rfl

/-- Two states that read alike below a bound hold the same byte sequence there. -/
theorem State.firstBytes_congr {s t : State} {S : Space} {n : Nat}
    (h : ∀ a < n, t.readByte S a = s.readByte S a) : t.firstBytes S n = s.firstBytes S n :=
  List.map_congr_left fun a ha => h a (List.mem_range.mp ha)

/-- The ends of a command write STATUS and nothing else (spec/60_exceptions.md R155, R156). -/
@[simp] theorem State.succeed_eq : s.succeed = s.setStatus (statusSuccess s.status) := rfl
@[simp] theorem State.raiseCmdFail_eq (e : ErrCode) :
    s.raiseCmdFail e = s.setStatus (statusCmdFail s.status e) := rfl
@[simp] theorem State.raiseDecodeFail_eq (e : ErrCode) :
    s.raiseDecodeFail e = s.setStatus (statusDecodeFail e) := rfl
@[simp] theorem State.hardReset_eq : s.hardReset = s.resetRegisters.clearMemories := rfl

/-- FRM.DEC's CRC update is a write of CRC, of the register's own value where no CRC was computed. -/
theorem State.setLastCrc_eq : s.setLastCrc = s.setCrc ((lastCrc s.received s.fallbackEn).getD s.crc) := by
  unfold State.setLastCrc
  split <;> simp_all [State.setCrc]

/-- The two ends of FRM.DEC (spec/42_frame_decode.md R130, R132). -/
@[simp] theorem State.finishDecode_accept (cmd : Half) (opid : Byte) (P : List Byte) (present domain : Bool) :
    s.finishDecode (.accept cmd opid P present domain)
      = (s.commitResponse cmd opid P).setStatus (statusAccept present domain) := rfl
@[simp] theorem State.finishDecode_reject (e : ErrCode) :
    s.finishDecode (.reject e) = s.setStatus (statusDecodeFail e) := rfl

/-- A host write of a byte: the byte where the space is writable and has the index, nothing anywhere else. -/
theorem State.hostWriteByte_cases (S : Space) (a : Nat) (b : Byte) :
    s.hostWriteByte S a b = s
      ∨ (hostWritable S = true ∧ a < spaceSize s.config S
          ∧ s.hostWriteByte S a b = s.setSpace S ((s.space S).put a b)) := by
  unfold State.hostWriteByte State.writeByte
  by_cases hw : hostWritable S = true
  · by_cases ha : a < spaceSize s.config S
    · exact .inr ⟨hw, ha, by simp [hw, ha]⟩
    · exact .inl (by simp [ha])
  · exact .inl (by simp [hw])

/-- The lengths of what FRM.ENC reads and builds (spec/41_frame_encode.md R110, R111). -/
@[simp] theorem State.requestPayload_length : s.requestPayload.length = s.reqLen.toNat := by
  simp [State.requestPayload]
@[simp] theorem State.requestBody_length : s.requestBody.length = 8 + s.reqLen.toNat := by
  simp [State.requestBody, frameBody, frameHeader]; omega
@[simp] theorem State.requestFrame_length : s.requestFrame.length = 10 + s.reqLen.toNat := by
  simp [State.requestFrame, frameEncode, frameBody, frameHeader, crcTrailer]; omega
@[simp] theorem State.received_length : s.received.length = s.rxCount.toNat := by simp [State.received]

end Sys2Proof.Machine
end

