-- ==== Sys2Proof/Laws/Exec.lean ====
section
/-! SUPPORT. The state each command ends in, as named updates: a proof about `exec` starts from these and does not
unfold a meaning. -/

namespace Sys2Proof.Machine

variable {s t : State}

theorem execNop_next (h : exec .nop s = .next t) : t = s := by
  simp only [exec, execNop, Host.Outcome.next.injEq] at h; exact h.symm

theorem execCrcInit_next (h : exec .crcInit s = .next t) :
    t = (s.setCrc crcSeed).setStatus (statusSuccess s.status) := by
  simp only [exec, execCrcInit, Host.Outcome.next.injEq] at h; rw [← h]; simp

theorem execCrcByte_next {b : Byte} (h : exec (.crcByte b) s = .next t) :
    t = (s.setCrc (crcByte s.crc b)).setStatus (statusSuccess s.status) := by
  simp only [exec, execCrcByte, Host.Outcome.next.injEq] at h; rw [← h]; simp

theorem execCrcCalc_next (h : exec .crcCalc s = .next t) :
    (s.badCount = true ∧ t = s.setStatus (statusCmdFail s.status .badCount))
      ∨ (s.badCount = false ∧ t = (s.setCrc (crc16 s.received)).setStatus (statusSuccess s.status)) := by
  simp only [exec, execCrcCalc] at h
  split at h
  case isTrue hb => simp only [Host.Outcome.next.injEq] at h; exact .inl ⟨hb, by rw [← h]; simp⟩
  case isFalse hb => simp only [Host.Outcome.next.injEq] at h; exact .inr ⟨by simpa using hb, by rw [← h]; simp⟩

theorem execFrmEnc_next (h : exec .frmEnc s = .next t) :
    t = (((s.storeBytes .txBuf s.requestFrame).setTxCount (BitVec.ofNat 9 (10 + s.reqLen.toNat))).setCrc
      (crc16 s.requestBody)).setStatus (statusSuccess s.status) := by
  simp only [exec, execFrmEnc, Host.Outcome.next.injEq] at h; rw [← h]; simp

theorem execFrmDec_next (h : exec .frmDec s = .next t) :
    (s.badCount = true ∧ t = s.setStatus (statusDecodeFail .badCount))
      ∨ (s.badCount = false ∧ t = (s.setCrc ((lastCrc s.received s.fallbackEn).getD s.crc)).finishDecode
          (frameDecode s.received s.fallbackEn)) := by
  simp only [exec, execFrmDec] at h
  split at h
  case isTrue hb => simp only [Host.Outcome.next.injEq] at h; exact .inl ⟨hb, by rw [← h]; simp⟩
  case isFalse hb =>
    simp only [Host.Outcome.next.injEq] at h
    exact .inr ⟨by simpa using hb, by rw [← h, State.setLastCrc_eq]⟩

theorem execSrst_next (h : exec .srst s = .next t) : t = s.resetRegisters := by
  simp only [exec, execSrst, Host.Outcome.next.injEq] at h; exact h.symm

end Sys2Proof.Machine
end

