-- ==== Sys2Proof/Laws/PerInstr.lean ====
section
/-! SUPPORT. Statements about every instruction as syntax, one lemma per constructor. -/

namespace Sys2Proof.Laws.OpcodeRow

/-- The instruction's word has the opcode that spec/30_encoding.md R78 gives its row, and no row's opcode twice: the
word is well formed in R79's sense and its `op` field is the row's. -/
def opcode (i : Instr) : Byte :=
  match i with
  | .nop => 0x00#8
  | .crcInit => 0x01#8
  | .crcByte _ => 0x02#8
  | .crcCalc => 0x03#8
  | .frmEnc => 0x04#8
  | .frmDec => 0x05#8
  | .srst => 0xFF#8

/-- The family: the `op` field of the instruction's word is its opcode. -/
def Statement (i : Instr) : Prop := (commandFields (encode i)).op = opcode i

theorem nop : Statement .nop := by unfold Statement; decide
theorem crcInit : Statement .crcInit := by unfold Statement; decide
theorem crcByte (imm8 : Byte) : Statement (.crcByte imm8) := by
  show (imm8 ++ 0x02#8).extractLsb' 0 8 = 0x02#8
  apply BitVec.eq_of_getLsbD_eq
  intro i hi
  rw [BitVec.getLsbD_extractLsb', BitVec.getLsbD_append]
  simp [hi]
theorem crcCalc : Statement .crcCalc := by unfold Statement; decide
theorem frmEnc : Statement .frmEnc := by unfold Statement; decide
theorem frmDec : Statement .frmDec := by unfold Statement; decide
theorem srst : Statement .srst := by unfold Statement; decide

end Sys2Proof.Laws.OpcodeRow
end

