-- ==== Sys2Proof/Laws/Serial.lean ====
section
/-! SUPPORT. The bit-serial engine: when it rests, how its runs join, and how its steps are counted. -/

namespace Sys2Proof.Machine

variable {s : State} {span : List Byte}

@[simp] theorem State.serialTick_idle (h : s.sequencer.phase = .idle) : s.serialTick span = s := by
  simp [State.serialTick, h]

@[simp] theorem State.serialRun_idle (h : s.sequencer.phase = .idle) (k : Nat) : s.serialRun span k = s := by
  induction k with
  | zero => rfl
  | succ k ih => rw [State.serialRun, State.serialTick_idle h]; exact ih

/-- A run of `j + k` internal steps is a run of `j` and then one of `k`. -/
theorem State.serialRun_add (s : State) (span : List Byte) (j k : Nat) :
    s.serialRun span (j + k) = (s.serialRun span j).serialRun span k := by
  induction j generalizing s with
  | zero => simp [State.serialRun]
  | succ j ih => rw [Nat.succ_add]; exact ih (s.serialTick span)

/-- An idle engine counts no step. -/
@[simp] theorem State.serialCount_idle (h : s.sequencer.phase = .idle) (bound : Nat) : s.serialCount span bound = 0 := by
  cases bound <;> simp [State.serialCount, h]

/-- A busy engine counts one step more than the engine after one internal step. -/
theorem State.serialCount_busy (h : s.sequencer.phase ≠ .idle) (bound : Nat) :
    s.serialCount span (bound + 1) = 1 + (s.serialTick span).serialCount span bound := by
  simp [State.serialCount, h]

/-- An engine busy for `n` steps and idle after them counts `n`, under any bound from `n` on. -/
theorem State.serialCount_eq {n bound : Nat} (hb : n ≤ bound)
    (busy : ∀ k < n, (s.serialRun span k).sequencer.phase ≠ .idle)
    (rest : (s.serialRun span n).sequencer.phase = .idle) : s.serialCount span bound = n := by
  induction n generalizing s bound with
  | zero => exact State.serialCount_idle rest bound
  | succ n ih =>
    obtain ⟨bound, rfl⟩ : ∃ b, bound = b + 1 := ⟨bound - 1, by omega⟩
    have now : s.sequencer.phase ≠ .idle := busy 0 (by omega)
    rw [State.serialCount_busy now, ih (by omega) (fun k hk => busy (k + 1) (by omega)) rest, Nat.add_comm]

/-- Over no bytes the engine is at once idle. -/
@[simp] theorem State.serialStart_nil (s : State) (ph : Phase) :
    s.serialStart ph [] = s.setSequencer Sequencer.idle := by simp [State.serialStart]

end Sys2Proof.Machine
end

