-- ==== Sys2Proof/Laws/Step.lean ====
section
/-! SUPPORT. Everything a step can do, said once: every invariant of the block follows from these cases. -/

namespace Sys2Proof.Machine

/-- What serving one move of the host does to the state. -/
inductive Served (s : State) : State → Prop where
  /-- a read: only the reply -/
  | reply (r : Reply) : Served s (s.setReply r)
  /-- a write of a register other than CMD -/
  | register (r : Reg) (v : Word32) : Served s (s.writeRegValue r v)
  /-- a write of a byte the host may write -/
  | byte (S : Space) (a : Nat) (b : Byte) (hw : hostWritable S = true) (ha : a < spaceSize s.config S) :
      Served s (s.setSpace S ((s.space S).put a b))
  /-- an ignored write -/
  | ignored : Served s s
  /-- a command -/
  | command (i : Instr) (t : State) (h : exec i s = .next t) : Served s t
  /-- an illegal command word -/
  | illegal : Served s (s.raiseCmdFail .illegalCmd)
  /-- the reset input -/
  | reset : Served s s.hardReset

theorem issueCommand_served {w : Word32} {s t : State} (h : issueCommand w s = .next t) : Served s t := by
  unfold issueCommand at h
  split at h
  · exact .command _ _ h
  · cases h; exact .illegal

theorem writeReg_served (s : State) (i : Nat) (v : Word32) : Served s (s.writeReg i v) := by
  unfold State.writeReg
  split
  · exact .register _ v
  · exact .ignored

theorem serveAction_served {h : HostAction} {s t : State} (e : serveAction h s = .next t) : Served s t := by
  cases h with
  | readReg i => cases e; exact .reply _
  | writeReg i v =>
    cases i with
    | zero => exact issueCommand_served e
    | succ i => cases e; exact writeReg_served s (i + 1) v
  | issue w => exact issueCommand_served e
  | readBuf S a => cases e; exact .reply _
  | writeBuf S a b =>
    cases e
    rcases s.hostWriteByte_cases S a b with h | ⟨hw, ha, h⟩ <;> rw [h]
    · exact .ignored
    · exact .byte S a b hw ha
  | hardReset => cases e; exact .reset

theorem serveBus_served {b : BusAccess} {s t : State} (e : serveBus b s = .next t) : Served s t := by
  cases b with
  | read w addr =>
    simp only [serveBus] at e
    split at e
    case h_3 => cases e; exact .reply _
    case h_4 => cases e
    all_goals exact serveAction_served e
  | write w addr data =>
    simp only [serveBus] at e
    split at e
    case h_3 => cases e; exact .ignored
    case h_4 => cases e
    all_goals exact serveAction_served e

theorem serveMove_served {m : HostMove} {s t : State} (e : serveMove m s = .next t) : Served s t := by
  cases m with
  | action h => exact serveAction_served e
  | bus b => exact serveBus_served e

/-- A step that goes on: with no move pending nothing changes; else the next move is taken and served. -/
theorem step_cases {s t : State} (h : step s = .next t) :
    (s.pending = [] ∧ t = s) ∨ ∃ m rest, s.pending = m :: rest ∧ Served (s.takeMove rest) t := by
  unfold step serveNext at h
  split at h
  case h_1 hp => cases h; exact .inl ⟨hp, rfl⟩
  case h_2 m rest hp => exact .inr ⟨m, rest, hp, serveMove_served h⟩

end Sys2Proof.Machine
end

