-- ==== Sys2Proof/Tests/Slice0.lean ====
section
/-! SUPPORT. Tests: ill-formed terms refused, command words written out from spec/30_encoding.md R78, one-step tests
with expected values from spec/95_test_vectors.md (the vector's id stands in the docstring), and a witness for the
hypotheses of every statement that has some. -/

namespace Sys2Proof.Tests

open Sys2Proof.Machine Sys2Proof.Safety

/-! ## Helpers -/

/-- The next state, if there is one. -/
def nextOf (o : Host.Outcome State Fault Refusal) : Option State :=
  match o with
  | .next t => some t
  | .fault _ => none
  | .refused _ => none

/-- The refusal, if there is one. -/
def refusalOf (o : Host.Outcome State Fault Refusal) : Option Refusal :=
  match o with
  | .next _ => none
  | .fault _ => none
  | .refused r => some r

/-- The reset state with bytes received: `ld.rx`. -/
def received (bs : List Byte) : State :=
  { State.reset with rxBuf := Memory.putAll [] 0 bs, rxCount := BitVec.ofNat 16 bs.length }

/-- The reset state with a Request: `ld.req`. -/
def requesting (cmd : Half) (opid : Byte) (bs : List Byte) : State :=
  { State.reset with
    reqCmd := cmd, reqOpid := opid, reqLen := BitVec.ofNat 8 bs.length, reqPayload := Memory.putAll [] 0 bs }

/-- The reset state with a count that the receive buffer may not have. -/
def counting (n : Half) : State := { State.reset with rxCount := n }

/-- The reset state with moves of the host to come. -/
def facing (ms : List HostMove) : State := { State.reset with pending := ms }

/-- The fallback off: `wr CFG, 0`. -/
def strict (s : State) : State := { s with cfg := 0#1 }

/-- V-D5: the source's frame. -/
def sourceFrame : List Byte := [0x55, 0x60, 0x01, 0x07, 0xC0, 0x00, 0x00, 0x01, 0xAC, 0xDF]

/-- V-D17: a frame whose CRC covers the payload only. -/
def payloadFrame : List Byte :=
  [0x55, 0x60, 0x01, 0x07, 0xC0, 0x06, 0x00, 0x01, 0x03, 0x04, 0xB4, 0x02, 0x48, 0x03, 0x01, 0xD9]

/-- V-E8's payload: byte `k` is `k`, 255 bytes. -/
def longPayload : List Byte := (List.range 255).map (BitVec.ofNat 8)

/-! ## Ill-formed terms are refused -/

theorem test_wf_unknown_op : CommandFields.wellFormed { op := 0x06#8, imm8 := 0x00#8 } = false := by decide
theorem test_wf_nop_imm : CommandFields.wellFormed { op := 0x00#8, imm8 := 0x01#8 } = false := by decide
theorem test_wf_frm_enc_imm : CommandFields.wellFormed { op := 0x04#8, imm8 := 0x01#8 } = false := by decide
theorem test_wf_srst_imm : CommandFields.wellFormed { op := 0xFF#8, imm8 := 0x01#8 } = false := by decide
theorem test_wf_crc_byte_imm : CommandFields.wellFormed { op := 0x02#8, imm8 := 0x01#8 } = true := by decide
theorem test_wf_request_too_long :
    Request.wellFormed { command := 0#16, operationID := 0#8, payload := List.replicate 256 0#8 } = false := by
  decide +kernel
theorem test_wf_capacity_below : Config.wellFormed { rxCapacity := 264 } = false := by decide
theorem test_wf_capacity_above : Config.wellFormed { rxCapacity := 65536 } = false := by decide
theorem test_wf_capacity_bounds :
    Config.wellFormed { rxCapacity := 265 } = true ∧ Config.wellFormed { rxCapacity := 65535 } = true := by decide

/-! ## Words written out from the encoding column of spec/30_encoding.md R78 -/

theorem test_decode_nop : decode 0x0000#16 = .ok .nop := by rfl
theorem test_decode_crc_init : decode 0x0001#16 = .ok .crcInit := by rfl
theorem test_decode_crc_byte : decode 0x5502#16 = .ok (.crcByte 0x55#8) := by rfl
theorem test_decode_crc_byte_zero : decode 0x0002#16 = .ok (.crcByte 0x00#8) := by rfl
theorem test_decode_crc_byte_ff : decode 0xFF02#16 = .ok (.crcByte 0xFF#8) := by rfl
theorem test_decode_crc_calc : decode 0x0003#16 = .ok .crcCalc := by rfl
theorem test_decode_frm_enc : decode 0x0004#16 = .ok .frmEnc := by rfl
theorem test_decode_frm_dec : decode 0x0005#16 = .ok .frmDec := by rfl
theorem test_decode_srst : decode 0x00FF#16 = .ok .srst := by rfl
/-- V-X3 -/
theorem test_decode_unknown_op : decode 0x0006#16 = .error (.unknownOp 0x06#8) := by rfl
/-- V-X4 -/
theorem test_decode_nop_imm : decode 0x0100#16 = .error (.immNotZero 0x00#8 0x01#8) := by rfl
/-- V-X5 -/
theorem test_decode_frm_enc_imm : decode 0x0104#16 = .error (.immNotZero 0x04#8 0x01#8) := by rfl
/-- V-X6 -/
theorem test_decode_srst_imm : decode 0x01FF#16 = .error (.immNotZero 0xFF#8 0x01#8) := by rfl
/-- V-X7: bits 31:16 are ignored. -/
theorem test_decode_high_half : decodeCommand 0xABCD5502#32 = .ok (.crcByte 0x55#8) := by rfl
theorem test_decode_table_word :
    decodeTableWord 16 0x5502 = some (.crcByte 0x55#8) ∧ decodeTableWord 16 0x00FF = some .srst
      ∧ decodeTableWord 16 0x0100 = none := by decide

/-! ## The CRC functions -/

/-- V-C20 -/
theorem test_crc_nine_digits : crc16 [0x31, 0x32, 0x33, 0x34, 0x35, 0x36, 0x37, 0x38, 0x39] = 0x4B37#16 := by
  decide +kernel
/-- V-E8: the length of the longest frame -/
theorem test_longest_frame : (frameEncode 0xABCD#16 0x07#8 longPayload).length = 265 := by decide +kernel
/-- V-D26: `required = 263` is not reduced modulo 256. -/
theorem test_long_frame_truncated :
    frameDecode ((frameEncode 0xABCD#16 0x07#8 longPayload).take 262) true = .reject .truncated := by decide +kernel

/-! ## The commands, one step each -/

/-- V-X1 -/
theorem test_nop :
    (nextOf (exec .nop { State.reset with status := 0x44#8, crc := 0xDFAC#16 })).map (fun t => (t.status, t.crc))
      = some (0x44#8, 0xDFAC#16) := by decide +kernel
/-- V-X8 -/
theorem test_crc_init :
    (nextOf (exec .crcInit { State.reset with status := 0x50#8, crc := 0x1234#16 })).map (fun t => (t.status, t.crc))
      = some (0x01#8, 0xFFFF#16) := by decide +kernel
/-- V-K2 -/
theorem test_crc_byte :
    (nextOf (exec (.crcByte 0x55#8) State.reset)).map (fun t => (t.status, t.crc)) = some (0x01#8, 0x7F7F#16) := by
  decide +kernel
/-- V-K3 -/
theorem test_crc_byte_zero :
    (nextOf (exec (.crcByte 0x00#8) { State.reset with crc := 0x0000#16 })).map (fun t => t.crc) = some 0x0000#16 := by
  decide +kernel
/-- V-K6 -/
theorem test_crc_calc :
    (nextOf (exec .crcCalc
        { received [0x31, 0x32, 0x33, 0x34, 0x35, 0x36, 0x37, 0x38, 0x39] with crc := 0x1234#16 })).map (fun t => t.crc)
      = some 0x4B37#16 := by decide +kernel
/-- V-K7 -/
theorem test_crc_calc_bad_count :
    (nextOf (exec .crcCalc { counting 513#16 with crc := 0x341A#16, status := 0x07#8 })).map (fun t => (t.crc, t.status))
      = some (0x341A#16, 0x66#8) := by decide +kernel
/-- V-E5 -/
theorem test_frm_enc :
    (nextOf (exec .frmEnc (requesting 0x1234#16 0x56#8 [0xDE, 0xAD, 0xBE, 0xEF]))).map
        (fun t => (t.firstBytes .txBuf 14, t.txCount, t.crc, t.status))
      = some ([0x55, 0x60, 0x01, 0x34, 0x12, 0x04, 0x00, 0x56, 0xDE, 0xAD, 0xBE, 0xEF, 0x77, 0x37], 14#9, 0x3777#16,
          0x01#8) := by decide +kernel
/-- V-E3, with STATUS bits 1 to 3 set before -/
theorem test_frm_enc_keeps_bits :
    (nextOf (exec .frmEnc { requesting 0xFFFF#16 0xFF#8 [0xFF] with status := 0x4E#8 })).map
        (fun t => (t.firstBytes .txBuf 11, t.status))
      = some ([0x55, 0x60, 0x01, 0xFF, 0xFF, 0x01, 0x00, 0xFF, 0xFF, 0xDF, 0x1C], 0x0F#8) := by decide +kernel
/-- V-D17 -/
theorem test_frm_dec_payload_only :
    (nextOf (exec .frmDec (received payloadFrame))).map
        (fun t => (t.status, t.rspCmd, t.rspOpid, t.firstBytes .rspPayload 6, t.crc))
      = some (0x0F#8, 0xC007#16, 0x01#8, [0x03, 0x04, 0xB4, 0x02, 0x48, 0x03], 0xD901#16) := by decide +kernel
/-- V-D7 over an earlier Response (spec/95_test_vectors.md section 2.6, stale-Response check) -/
theorem test_frm_dec_mismatch :
    (nextOf (exec .frmDec
        { received [0x55, 0x60, 0x01, 0x07, 0xC0, 0x00, 0x00, 0x01, 0xAD, 0xDF] with
          cfg := 0#1, rspCmd := 0x1234#16, rspLen := 4#8, status := 0x07#8 })).map (fun t => (t.status, t.rspCmd, t.rspLen, t.crc))
      = some (0x44#8, 0x1234#16, 4#8, 0xDFAC#16) := by decide +kernel
/-- V-X2 -/
theorem test_srst :
    (nextOf (exec .srst
        { counting 14#16 with
          status := 0x07#8, cfg := 0#1, crc := 0x1234#16, reqLen := 9#8
          txCount := 12#9, rspLen := 4#8, txBuf := [(0, 0x55#8)] })).map
        (fun t => (t.status, t.cfg, t.crc, t.reqLen, t.rxCount, t.txCount, t.rspLen, t.readByte .txBuf 0))
      = some (0x00#8, 1#1, 0xFFFF#16, 0#8, 0#16, 0#9, 0#8, 0x55#8) := by decide +kernel
/-- V-X3, V-X6 -/
theorem test_illegal_words :
    (nextOf (serveAction (.issue 0x0006#32) { State.reset with status := 0x07#8 })).map (fun t => t.status)
        = some 0x56#8
      ∧ (nextOf (serveAction (.issue 0x01FF#32) { State.reset with status := 0x01#8 })).map (fun t => t.status)
        = some 0x50#8 := by decide +kernel
/-- the fetch word runs as the next step -/
theorem test_with_fetch_word :
    (nextOf (step (State.reset.withFetchWord 16 0x5502))).map (fun t => t.crc) = some 0x7F7F#16 := by decide +kernel

/-! ## Witnesses: command words -/

theorem test_witness_DecodeEncodeAgree :
    (Instr.crcByte 0xFF#8).wellFormed = true ∧ decode 0xFF02#16 = .ok (.crcByte 0xFF#8) := ⟨rfl, rfl⟩

/-- ground (a), at the opcode after the last of the six and before SRST's -/
theorem test_witness_IllegalWords_op : (∀ i, decode 0x0006#16 ≠ .ok i) ∧ (∀ i, decode 0x00FE#16 ≠ .ok i) :=
  ⟨(by intro i h; rw [test_decode_unknown_op] at h; cases h),
    (by intro i h; rw [show decode 0x00FE#16 = .error (.unknownOp 0xFE#8) from rfl] at h; cases h)⟩

/-- ground (b) -/
theorem test_witness_IllegalWords_imm : ∀ i, decode ((0x00010104#32 : Word32).setWidth 16) ≠ .ok i := by
  intro i h
  rw [show decode ((0x00010104#32 : Word32).setWidth 16) = .error (.immNotZero 0x04#8 0x01#8) from rfl] at h
  cases h

/-- `imm8` 1 and 255 with NOP's opcode -/
theorem test_witness_NopChangesNothing : (0x01#8 : Byte) ≠ 0x00#8 ∧ (0xFF#8 : Byte) ≠ 0x00#8 := by decide

/-! ## Witnesses: the CRC functions -/

theorem test_witness_CrcDetectsOneChangedByte : (0x07#8 : Byte) ≠ 0x06#8 := by decide

/-- the bits of the high byte, 8 to 15 -/
theorem test_witness_CrcFunctions_high_bits : 8 ≤ 8 ∧ 8 ≤ 15 := by decide

theorem test_witness_SerialEngineRefinesByteSteps :
    Phase.header ≠ .idle ∧ 0 < 8 * [0x55#8, 0x60#8].length ∧ 15 < 8 * [0x55#8, 0x60#8].length := by decide

/-! ## Witnesses: the commands -/

/-- V-K8: the bound is inclusive; V-K5: no bytes -/
theorem test_witness_CrcCalc_within :
    (counting 512#16).rxCount.toNat ≤ (counting 512#16).config.rxCapacity
      ∧ State.reset.rxCount.toNat ≤ State.reset.config.rxCapacity ∧ State.reset.rxCount.toNat = 0 := by decide

theorem test_witness_CrcCalc_above :
    (counting 513#16).config.rxCapacity < (counting 513#16).rxCount.toNat
      ∧ (counting 65535#16).config.rxCapacity < (counting 65535#16).rxCount.toNat := by decide

theorem test_witness_EncodedFrameLayout : longPayload.length ≤ 255 ∧ 254 < longPayload.length ∧ ([] : List Byte).length ≤ 255 := by decide +kernel

/-- V-D14, V-D15: no CRC; the length 0 (V-D3) -/
theorem test_witness_FrmDecAccept_no_crc :
    decodePath (received (payloadFrame.take 14)) = .noCrc ∧ decodePath (received (payloadFrame.take 15)) = .noCrc
      ∧ decodePath (received (sourceFrame.take 8)) = .noCrc := by decide +kernel
/-- V-D5, V-D5a: full span -/
theorem test_witness_FrmDecAccept_full_span :
    decodePath (received sourceFrame) = .fullSpan ∧ (decodePath (received sourceFrame)).accepts = true
      ∧ decodePath (strict (received (sourceFrame ++ [0x99#8]))) = .fullSpan := by decide +kernel
/-- V-D17 -/
theorem test_witness_FrmDecAccept_payload_only : decodePath (received payloadFrame) = .payloadOnly := by decide +kernel
/-- V-D2, V-D10, V-D13, V-D18, V-D27: the five ways to reject -/
theorem test_witness_FrmDecReject :
    decodePath (received (sourceFrame.take 7)) = .tooShort
      ∧ decodePath (received (0x54#8 :: sourceFrame.drop 1)) = .badStart
      ∧ decodePath (received (payloadFrame.take 13)) = .truncated
      ∧ decodePath (strict (received payloadFrame)) = .mismatch
      ∧ decodePath (counting 513#16) = .badCount := by decide +kernel
theorem test_witness_FrmDecReject_accepts :
    (decodePath (received (sourceFrame.take 7))).accepts = false
      ∧ (decodePath (counting 513#16)).accepts = false := by decide +kernel

/-- a command that writes CRC and STATUS -/
theorem test_witness_OnlyListedCommands_crc :
    ∃ t, exec .crcCalc (received sourceFrame) = .next t ∧ t.status ≠ (received sourceFrame).status
      ∧ t.crc ≠ (received sourceFrame).crc := ⟨_, rfl, by decide +kernel, by decide +kernel⟩
/-- SRST, which writes CFG, TX_COUNT and the Response registers -/
theorem test_witness_OnlyListedCommands_srst :
    ∃ t, exec .srst (strict { State.reset with txCount := 10#9, rspLen := 4#8 }) = .next t ∧ t.cfg ≠ 0#1
      ∧ t.txCount ≠ 10#9 ∧ t.rspLen ≠ 4#8 := ⟨_, rfl, by decide, by decide, by decide⟩
/-- FRM.ENC, which writes TXBUF -/
theorem test_witness_OnlyListedCommands_txBuf :
    ∃ t, exec .frmEnc { State.reset with txBuf := [(0, 0x00#8)] } = .next t
      ∧ t.readByte .txBuf 0 ≠ State.readByte { State.reset with txBuf := [(0, 0x00#8)] } .txBuf 0 :=
  ⟨_, rfl, by decide +kernel⟩
/-- FRM.DEC, which writes RSP_PAYLOAD -/
theorem test_witness_OnlyListedCommands_rspPayload :
    ∃ t, exec .frmDec { received payloadFrame with rspPayload := [(0, 0x00#8)] } = .next t
      ∧ t.readByte .rspPayload 0
        ≠ State.readByte { received payloadFrame with rspPayload := [(0, 0x00#8)] } .rspPayload 0 :=
  ⟨_, rfl, by decide +kernel⟩

theorem test_witness_StatusDiscipline :
    (∃ t, exec .frmEnc State.reset = .next t) ∧ (∃ t, exec .nop State.reset = .next t)
      ∧ (∃ t, exec .srst State.reset = .next t) ∧ (∃ t, exec .frmDec State.reset = .next t)
      ∧ Instr.frmEnc ≠ .nop ∧ Instr.frmEnc ≠ .srst ∧ Instr.frmEnc ≠ .frmDec :=
  ⟨⟨_, rfl⟩, ⟨_, rfl⟩, ⟨_, rfl⟩, ⟨_, rfl⟩, by decide, by decide, by decide⟩
theorem test_witness_StatusDiscipline_step :
    OkErrAgree (facing [.action (.issue 0x00000005#32)])
      ∧ ∃ t, step (facing [.action (.issue 0x00000005#32)]) = .next t := ⟨by decide, ⟨_, rfl⟩⟩

theorem test_witness_Idempotent_commands : MemoriesCanonical (received payloadFrame) ∧ ∀ b, Instr.frmDec ≠ .crcByte b :=
  ⟨by decide +kernel, nofun⟩
theorem test_witness_Idempotent_illegal :
    (∀ i, decodeCommand 0x00000006#32 ≠ .ok i) ∧ statusOk (0x01#8) = true :=
  ⟨(by intro i h; rw [show decodeCommand 0x00000006#32 = .error (.unknownOp 0x06#8) from rfl] at h; cases h), by decide⟩

/-- FRM.DEC that reports CRC_MISMATCH, and writes CRC -/
theorem test_witness_FailureIsPrecise_decode :
    ∃ t, issueCommand 0x00000005#32 (strict (received payloadFrame)) = .next t ∧ statusOk t.status = false
      ∧ t.crc ≠ (strict (received payloadFrame)).crc ∧ decodeCommand 0x00000005#32 = .ok .frmDec :=
  ⟨_, rfl, by decide +kernel, by decide +kernel, rfl⟩
/-- CRC.CALC that reports BAD_COUNT, and an illegal word -/
theorem test_witness_FailureIsPrecise_command :
    (∃ t, issueCommand 0x00000003#32 (counting 513#16) = .next t ∧ statusOk t.status = false)
      ∧ (∃ t, issueCommand 0x00000100#32 State.reset = .next t ∧ statusOk t.status = false)
      ∧ decodeCommand 0x00000003#32 = .ok .crcCalc ∧ decodeCommand 0x00000100#32 = .error (.immNotZero 0#8 1#8) :=
  ⟨⟨_, rfl, by decide +kernel⟩, ⟨_, rfl, by decide +kernel⟩, rfl, rfl⟩

/-! ## Witnesses: the bit-steps of R183 -/

/-- an issued word with a run of the engine, and the phases of a run that are not idle -/
theorem test_witness_BitStepCounts_pass :
    issuedPasses 0x00005502#32 State.reset ≠ [] ∧ decodeCommand 0x00005502#32 = .ok (.crcByte 0x55#8)
      ∧ (∃ t, issueCommand 0x00005502#32 State.reset = .next t) ∧ Phase.secondPass ≠ .idle :=
  ⟨by decide, rfl, ⟨_, rfl⟩, by decide⟩
/-- V-D3, which computes no CRC; V-D5, V-D18, V-D17, V-D6, which do -/
theorem test_witness_BitStepCounts_decode :
    (decodePath (received (sourceFrame.take 8))) ∈ [.badCount, .tooShort, .badStart, .truncated, .noCrc]
      ∧ decodePath (received sourceFrame) = .fullSpan
      ∧ (decodePath (strict (received payloadFrame)) = .mismatch ∧ (strict (received payloadFrame)).cfg = 0#1)
      ∧ decodePath (received payloadFrame) = .payloadOnly
      ∧ (decodePath (received (sourceFrame.take 8 ++ [0xAD#8, 0xDF#8])) = .mismatch
        ∧ (received (sourceFrame.take 8 ++ [0xAD#8, 0xDF#8])).cfg = 1#1) := by decide +kernel
/-- R183 on V-D5 (8 * 8), V-D17 (8 * 14 + 8 * 6), V-D6 (8 * 8 + 8 * 0), V-E2 (64) and an illegal word (0) -/
theorem test_bit_steps :
    commandBitSteps .frmDec (received sourceFrame) = 64 ∧ commandBitSteps .frmDec (received payloadFrame) = 160
      ∧ commandBitSteps .frmDec (received (sourceFrame.take 8 ++ [0xAD#8, 0xDF#8])) = 64
      ∧ commandBitSteps .frmEnc State.reset = 64 ∧ issuedBitSteps 0x00000006#32 State.reset = 0 := by decide +kernel

/-! ## Witnesses: the decoder as a function -/

theorem test_witness_EncodeDecodeRoundTrip : longPayload.length ≤ 255 ∧ State.reset.config.legal := by decide +kernel

/-- the first byte, one of the header, the last byte of the CRC -/
theorem test_witness_OneChangedByteIsRejected :
    [0xFF#8].length ≤ 255 ∧ 10 < 10 + [0xFF#8].length ∧ (frameEncode 0xFFFF#16 0xFF#8 [0xFF#8])[0]? ≠ some 0x54#8
      ∧ (frameEncode 0xFFFF#16 0xFF#8 [0xFF#8])[6]? ≠ some 0xFF#8
      ∧ (frameEncode 0xFFFF#16 0xFF#8 [0xFF#8])[10]? ≠ some 0x1D#8 := by decide +kernel

/-- the header of V-D9, and header and payload of V-D17 -/
theorem test_witness_AcceptableTrailingCrcs :
    ((sourceFrame.take 8).length = 8 ∧ (sourceFrame.take 8)[0]? = some 0x55#8 ∧ (sourceFrame.take 8)[5]? = some 0x00#8)
      ∧ ((payloadFrame.take 14)[0]? = some 0x55#8 ∧ 8 ≤ (payloadFrame.take 14).length
        ∧ (payloadFrame.take 14).length = 8 + ((payloadFrame.take 14).getD 5 0#8).toNat) := by decide

/-- V-D5 with the fallback off -/
theorem test_witness_FallbackOnlyAddsAcceptedInputs :
    frameDecode sourceFrame false = .accept 0xC007#16 0x01#8 [] true false := by decide +kernel

/-- V-D17 -/
theorem test_witness_AcceptedPayload :
    frameDecode payloadFrame true = .accept 0xC007#16 0x01#8 [0x03, 0x04, 0xB4, 0x02, 0x48, 0x03] true true := by
  decide +kernel

/-- V-D19b -/
theorem test_witness_BytesOneTwoSix :
    (payloadFrame.take 15).length < 10 + ((payloadFrame.take 15).getD 5 0#8).toNat := by decide

/-- V-D5a and V-D4, and a sequence without a CRC, V-D3 -/
theorem test_witness_CrcPresence :
    10 + (sourceFrame.getD 5 0#8).toNat ≤ sourceFrame.length
      ∧ (sourceFrame.take 8).length = 8 + ((sourceFrame.take 8).getD 5 0#8).toNat
      ∧ frameDecode (sourceFrame.take 8) true = .accept 0xC007#16 0x01#8 [] false false := by decide +kernel

/-! ## Witnesses: what commands do not depend on -/

/-- RXBUF with another byte past RX_COUNT -/
theorem test_witness_BytesPastRxCount :
    (∀ a < (received sourceFrame).rxCount.toNat,
        State.readByte { received sourceFrame with rxBuf := Memory.putAll [] 0 (sourceFrame ++ [0x99#8]) } .rxBuf a
          = (received sourceFrame).readByte .rxBuf a)
      ∧ (∃ t, exec .frmDec (received sourceFrame) = .next t) ∧ ∃ t, exec .crcCalc (received sourceFrame) = .next t :=
  ⟨by decide +kernel, ⟨_, rfl⟩, ⟨_, rfl⟩⟩

theorem test_witness_OnlyDecodeReadsFallbackBit :
    Instr.crcCalc ≠ .frmDec ∧ Instr.crcCalc ≠ .srst ∧ ∃ t, exec .crcCalc (received sourceFrame) = .next t :=
  ⟨by decide, by decide, ⟨_, rfl⟩⟩

/-- a write beside an unwritten byte -/
theorem test_witness_UnwrittenBytesAreStable :
    ∃ t, step (facing [.action (.writeBuf .rxBuf 1 0x00#8)]) = .next t ∧ t.epoch = 0
      ∧ (t.space .rxBuf).get? 0 = none ∧ (t.space .rxBuf).get? 1 = some 0x00#8 :=
  ⟨_, rfl, by decide +kernel, by decide +kernel, by decide +kernel⟩

/-! ## Witnesses: host actions and the bus -/

/-- the first register number and the first index of each space that do not exist -/
theorem test_witness_UnmappedActions :
    12 ≤ 12 ∧ spaceSize Config.default .reqPayload ≤ 255 ∧ spaceSize Config.default .txBuf ≤ 265
      ∧ spaceSize Config.default .rxBuf ≤ 512 ∧ spaceSize Config.default .rspPayload ≤ 255 := by decide

/-- the last index of each space; these are also in range of an unwritten byte after HardReset -/
theorem test_witness_WrittenByteReadsBack :
    254 < spaceSize Config.default .reqPayload ∧ 511 < spaceSize Config.default .rxBuf
      ∧ 264 < spaceSize Config.default .txBuf ∧ 254 < spaceSize Config.default .rspPayload := by decide

/-- the last register and the last byte of each window reach their place; a write with the byte at the last of RXBUF -/
theorem test_witness_BusAddressMap :
    busTarget Config.default .word 0x0002C = .reg 11 ∧ busTarget Config.default .byte 0x001FE = .buf .reqPayload 254
      ∧ busTarget Config.default .byte 0x00308 = .buf .txBuf 264
      ∧ busTarget Config.default .byte 0x004FE = .buf .rspPayload 254
      ∧ busTarget Config.default .byte 0x011FF = .buf .rxBuf 511 := by decide

/-- the two ends of every unmapped range -/
theorem test_witness_BusUnmappedAddresses :
    BusUnmapped State.reset 0x00030 ∧ BusUnmapped State.reset 0x000FF ∧ BusUnmapped State.reset 0x001FF
      ∧ BusUnmapped State.reset 0x00309 ∧ BusUnmapped State.reset 0x003FF ∧ BusUnmapped State.reset 0x004FF
      ∧ BusUnmapped State.reset 0x00FFF ∧ BusUnmapped State.reset 0x01200 := by
  simp only [BusUnmapped, State.reset, Config.default]; decide
theorem test_bus_unmapped_replies :
    (nextOf (serveBus (.read .byte 0x00030) State.reset)).map (fun t => t.reply) = some (.byte 0#8)
      ∧ (nextOf (serveBus (.read .byte 0x001FF) State.reset)).map (fun t => t.reply) = some (.byte 0#8)
      ∧ (nextOf (serveBus (.read .byte 0x01200) State.reset)).map (fun t => t.reply) = some (.byte 0#8)
      ∧ (nextOf (serveBus (.read .word 0x00030) State.reset)).map (fun t => t.reply) = some (.word 0#32)
      ∧ (nextOf (serveBus (.read .word 0x000FC) State.reset)).map (fun t => t.reply) = some (.word 0#32) := by
  decide +kernel

/-- the ends of every clause of the refused accesses -/
theorem test_witness_BusUnsupportedAccess :
    (0x0002F < 0x00030 ∧ AccessWidth.byte ≠ .word) ∧ (0 < 0x00030 ∧ AccessWidth.half ≠ .word)
      ∧ (0x0002E % 4 ≠ 0 ∧ 0x00102 % 4 ≠ 0)
      ∧ (BusBuffer State.reset 0x00100 ∧ BusBuffer State.reset 0x001FE ∧ BusBuffer State.reset 0x00308
        ∧ BusBuffer State.reset 0x004FE ∧ BusBuffer State.reset 0x01000 ∧ BusBuffer State.reset 0x011FF
        ∧ AccessWidth.half ≠ .byte ∧ AccessWidth.word ≠ .byte) := by
  simp only [BusBuffer, State.reset, Config.default]; decide
theorem test_bus_refusals :
    refusalOf (serveBus (.read .byte 0x0002F) State.reset) = some (.registerAccessWidth 0x0002F)
      ∧ refusalOf (serveBus (.write .word 0x0002E 0#32) State.reset) = some (.misaligned 0x0002E)
      ∧ refusalOf (serveBus (.write .word 0x00100 0#32) State.reset) = some (.bufferAccessWidth 0x00100)
      ∧ refusalOf (serveBus (.read .half 0x011FE) State.reset) = some (.bufferAccessWidth 0x011FE) := by decide +kernel
/-- the accesses that go on: the last register, the last byte of RXBUF -/
theorem test_bus_goes_on :
    (nextOf (serveBus (.read .word 0x0002C) State.reset)).isSome = true
      ∧ (nextOf (serveBus (.write .byte 0x011FF 0x55#32) State.reset)).map (fun t => t.readByte .rxBuf 511)
        = some 0x55#8 := by decide +kernel

/-! ## Witnesses: steps -/

/-- the step of moves that issue nothing: a read, a byte's write, a reset, a bus read -/
theorem test_witness_StepServesEveryMove :
    (facing [.action (.readReg 3), .action .hardReset]).pending = .action (.readReg 3) :: [.action .hardReset]
      ∧ (facing [.bus (.read .word 0x0000C)]).pending = .bus (.read .word 0x0000C) :: []
      ∧ (nextOf (step (facing [.action (.readReg 3), .action .hardReset]))).map (fun t => (t.reply, t.pending))
        = some (.word 0xFFFF#32, [.action .hardReset])
      ∧ (nextOf (step (facing [.bus (.read .word 0x0000C)]))).map (fun t => t.reply) = some (.word 0xFFFF#32)
      ∧ (nextOf (step (facing [.action (.writeReg 2 0#32)]))).map (fun t => t.cfg) = some 0#1
      ∧ (nextOf (step { facing [.action .hardReset] with crc := 0#16 })).map (fun t => (t.crc, t.epoch))
        = some (0xFFFF#16, 1) := by decide +kernel

/-- the three ways to issue a word that decodes, and an illegal one -/
theorem test_witness_StepRunsTheIssuedCommand :
    (facing [.action (.issue 0x00005502#32)]).pending = .action (.issue 0x00005502#32) :: []
      ∧ (facing [.action (.writeReg 0 0x00005502#32)]).pending = .action (.writeReg 0 0x00005502#32) :: []
      ∧ (facing [.bus (.write .word 0 0x00005502#32)]).pending = .bus (.write .word 0 0x00005502#32) :: []
      ∧ decodeCommand 0x00005502#32 = .ok (.crcByte 0x55#8)
      ∧ decodeCommand 0x00000006#32 = .error (.unknownOp 0x06#8) := ⟨rfl, rfl, rfl, rfl, rfl⟩
theorem test_three_ways_to_issue :
    (nextOf (step (facing [.action (.issue 0x00005502#32)]))).map (fun t => t.crc) = some 0x7F7F#16
      ∧ (nextOf (step (facing [.action (.writeReg 0 0x00005502#32)]))).map (fun t => t.crc) = some 0x7F7F#16
      ∧ (nextOf (step (facing [.bus (.write .word 0 0x00005502#32)]))).map (fun t => t.crc) = some 0x7F7F#16 := by
  decide +kernel

theorem test_witness_HostActionsNeverStop :
    NextIsAction (facing [.action .hardReset]) ∧ State.reset.pending = [] := ⟨by simp [NextIsAction, facing], rfl⟩

theorem test_witness_StepKeepsParameter :
    ∃ t, step (facing [.action .hardReset, .action (.readReg 1)]) = .next t
      ∧ t.epoch ≠ (facing [.action .hardReset, .action (.readReg 1)]).epoch := ⟨_, rfl, by decide⟩

/-- FRM.DEC of V-D17, from a state that meets the invariant; its Response is held after the step -/
theorem test_witness_StepKeepsInvariant :
    Inv { received payloadFrame with pending := [.action (.issue 0x00000005#32)] }
      ∧ ∃ t, step { received payloadFrame with pending := [.action (.issue 0x00000005#32)] } = .next t
        ∧ t.rspLen = 6#8 := by
  refine ⟨⟨by decide, rfl, by decide, by decide, by decide +kernel, ?_, by decide⟩, _, rfl, by decide +kernel⟩
  exact ⟨by decide, by decide, by decide +kernel, by decide⟩

/-- TXBUF holding the frame of V-E2, and a step that keeps it -/
theorem test_witness_StepKeepsTxFrame :
    TxHoldsFrame { State.reset with
        txBuf := Memory.putAll [] 0 (frameEncode 0#16 0#8 []), txCount := 10#9, pending := [.action (.issue 1#32)] }
      ∧ ∃ t, step { State.reset with
        txBuf := Memory.putAll [] 0 (frameEncode 0#16 0#8 []), txCount := 10#9, pending := [.action (.issue 1#32)] }
          = .next t :=
  ⟨.inr ⟨{ command := 0#16, operationID := 0#8, payload := [] }, rfl, by decide +kernel⟩, _, rfl⟩

end Sys2Proof.Tests
end

section
/-! PROOF. Facts about the pure decoder, the memories and the step that the invariants of a step need. -/

namespace Sys2Proof.Machine

/-! ### The pure decoder: what it accepts -/

/-- The decoder rejects, or accepts the fields of the sequence; the payload-only domain only with a CRC present. -/
theorem frameDecode_cases (B : List Byte) (fb : Bool) :
    (∃ e, frameDecode B fb = .reject e)
      ∨ ∃ present domain, (domain = true → present = true) ∧ frameDecode B fb = acceptFrame B present domain := by
  unfold frameDecode
  split_ifs
  · exact .inl ⟨.tooShort, rfl⟩
  · exact .inl ⟨.badStart, rfl⟩
  · exact .inl ⟨.truncated, rfl⟩
  · exact .inr ⟨false, false, nofun, rfl⟩
  · exact .inr ⟨true, false, nofun, rfl⟩
  · exact .inr ⟨true, true, fun _ => rfl, rfl⟩
  · exact .inl ⟨.crcMismatch, rfl⟩

/-- `len` is one byte, so a payload has at most 255 (spec/30_encoding.md R73). -/
theorem framePayload_length_le (B : List Byte) : (framePayload B).length ≤ 255 := by
  have hlen : (frameLen B).toNat < 2 ^ 8 := (frameLen B).isLt
  simp only [framePayload, frameSpan, frameRequired, headerLength, List.length_drop, List.length_take]
  omega

/-! ### Memories: a written index stays written -/

theorem Memory.isSome_get?_put {m : Memory} {c : Nat} (h : (m.get? c).isSome = true) (a : Nat) (b : Byte) :
    ((m.put a b).get? c).isSome = true := by
  rw [Memory.get?_put]
  split
  · rfl
  · exact h

/-- After consecutive writes from index 0 the indices written are the old ones and those below the length. -/
theorem Memory.isSome_get?_putAll (m : Memory) (bs : List Byte) {c : Nat}
    (h : c < bs.length ∨ (m.get? c).isSome = true) : ((m.putAll 0 bs).get? c).isSome = true := by
  rw [Memory.get?_putAll]
  split
  case isTrue hc => simpa using hc
  case isFalse hc => exact h.resolve_left fun hlt => hc ⟨Nat.zero_le c, by omega⟩

/-! ### The step -/

/-- A step that goes on, with the move it serves named. -/
theorem step_serves {s t : State} (e : step s = .next t) :
    (s.pending = [] ∧ t = s) ∨ ∃ m rest, s.pending = m :: rest ∧ serveMove m (s.takeMove rest) = .next t := by
  unfold step serveNext at e
  split at e
  case h_1 hp => cases e; exact .inl ⟨hp, rfl⟩
  case h_2 m rest hp => exact .inr ⟨m, rest, hp, e⟩

end Sys2Proof.Machine
end

section
/-! PROOF. Every update that a step is made of keeps the invariant of the block; so each command does, so each move of
the host does, so a step does (spec/10_state.md R26, R28, R31, R32, R35, R41). -/

namespace Sys2Proof.Safety

open Sys2Proof.Machine

variable {s t : State}

/-! ### STATUS: the value that each end of a command writes is legal -/

/-- Success keeps bits 1 to 3 (spec/10_state.md R32 (c)), so CRC_DOMAIN still stands beside the other two. -/
theorem statusSuccess_legal {st : BitVec 8} (h : StatusLegal st) : StatusLegal (statusSuccess st) := by
  obtain ⟨-, -, -, hdomain, -, -⟩ := h
  simpa [StatusLegal, statusSuccess] using hdomain

/-- The two failures of commands other than FRM.DEC have codes above those that speak of bits 1 to 3. -/
theorem statusCmdFail_legal {st : BitVec 8} (h : StatusLegal st) {e : ErrCode} (he : e = .illegalCmd ∨ e = .badCount) :
    StatusLegal (statusCmdFail st e) := by
  obtain ⟨-, -, -, hdomain, -, -⟩ := h
  rcases he with rfl | rfl
  · simpa [StatusLegal, statusCmdFail, ErrCode.code] using hdomain
  · simpa [StatusLegal, statusCmdFail, ErrCode.code] using hdomain

/-- The value that a reset leaves (spec/10_state.md R42). -/
theorem statusReset_legal : StatusLegal 0x00#8 := by decide

/-- A rejecting FRM.DEC writes every field, CRC_PRESENT beside a mismatch alone. -/
theorem statusDecodeFail_legal (e : ErrCode) : StatusLegal (statusDecodeFail e) := by
  cases e <;> decide

theorem statusAccept_legal : ∀ present domain : Bool, (domain = true → present = true) →
    StatusLegal (statusAccept present domain) := by decide

/-! ### The invariant, one lemma per update -/

theorem MemoryWithin.put {n : Nat} {m : Memory} (hm : MemoryWithin n m) {a : Nat} (ha : a < n) (b : Byte) :
    MemoryWithin n (m.put a b) := by
  intro p hp
  rcases Memory.mem_put hp with hp | rfl
  · exact hm p hp
  · exact ha

theorem Inv.space_wf (h : Inv s) (S : Space) : (s.space S).wf := by
  obtain ⟨hreq, htx, hrx, hrsp⟩ := h.memoriesCanonical
  cases S
  exacts [hreq, htx, hrx, hrsp]

theorem Inv.space_within (h : Inv s) (S : Space) : MemoryWithin (spaceSize s.config S) (s.space S) := by
  obtain ⟨hreq, htx, hrx, hrsp⟩ := h.memoriesWithin
  cases S
  exacts [hreq, htx, hrx, hrsp]

theorem Inv.takeMove (h : Inv s) (rest : List HostMove) : Inv (s.takeMove rest) := { h with }

theorem Inv.setReply (h : Inv s) (r : Reply) : Inv (s.setReply r) := { h with }

theorem Inv.setCrc (h : Inv s) (v : Half) : Inv (s.setCrc v) := { h with }

theorem Inv.setStatus (h : Inv s) {v : BitVec 8} (hv : StatusLegal v) : Inv (s.setStatus v) :=
  { h with statusLegal := hv }

theorem Inv.setTxCount (h : Inv s) {v : BitVec 9} (hv : 10 ≤ v.toNat ∧ v.toNat ≤ 265) : Inv (s.setTxCount v) :=
  { h with txCountLegal := .inr hv }

/-- New Response registers are covered when the bytes they count are stored already. -/
theorem Inv.setRsp (h : Inv s) (cmd : Half) (opid : Byte) {len : Byte}
    (hlen : ∀ a < len.toNat, (s.rspPayload.get? a).isSome = true) : Inv (s.setRsp cmd opid len) :=
  { h with responseHeld := hlen }

/-- The host's write reaches no register that the invariant speaks of. -/
theorem Inv.writeRegValue (h : Inv s) (r : Reg) (v : Word32) : Inv (s.writeRegValue r v) := by
  cases r <;> exact { h with }

theorem Inv.resetRegisters (h : Inv s) : Inv s.resetRegisters :=
  { h with
    sequencerIdle := rfl
    statusLegal := statusReset_legal
    txCountLegal := .inl rfl
    responseHeld := fun a ha => absurd ha (Nat.not_lt_zero a) }

/-- Empty memories hold no Response, so the registers are reset with them. -/
theorem Inv.hardReset (h : Inv s) : Inv s.hardReset :=
  { h.resetRegisters with
    memoriesCanonical := ⟨.nil, .nil, .nil, .nil⟩
    memoriesWithin := ⟨nofun, nofun, nofun, nofun⟩
    responseHeld := fun a ha => absurd ha (Nat.not_lt_zero a) }

/-- A memory may be replaced by a canonical one inside the space in which every written index stays written. -/
theorem Inv.setSpace (h : Inv s) {S : Space} {m : Memory} (hwf : m.wf) (hin : MemoryWithin (spaceSize s.config S) m)
    (hkept : ∀ a, ((s.space S).get? a).isSome = true → (m.get? a).isSome = true) : Inv (s.setSpace S m) := by
  obtain ⟨wreq, wtx, wrx, wrsp⟩ := h.memoriesCanonical
  obtain ⟨ireq, itx, irx, irsp⟩ := h.memoriesWithin
  cases S with
  | reqPayload =>
    exact { h with memoriesCanonical := ⟨hwf, wtx, wrx, wrsp⟩, memoriesWithin := ⟨hin, itx, irx, irsp⟩ }
  | txBuf => exact { h with memoriesCanonical := ⟨wreq, hwf, wrx, wrsp⟩, memoriesWithin := ⟨ireq, hin, irx, irsp⟩ }
  | rxBuf => exact { h with memoriesCanonical := ⟨wreq, wtx, hwf, wrsp⟩, memoriesWithin := ⟨ireq, itx, hin, irsp⟩ }
  | rspPayload =>
    exact { h with
      memoriesCanonical := ⟨wreq, wtx, wrx, hwf⟩
      memoriesWithin := ⟨ireq, itx, irx, hin⟩
      responseHeld := fun a ha => hkept a (h.responseHeld a ha) }

theorem Inv.putByte (h : Inv s) {S : Space} {a : Nat} (ha : a < spaceSize s.config S) (b : Byte) :
    Inv (s.setSpace S ((s.space S).put a b)) :=
  h.setSpace (Memory.put_wf (h.space_wf S) a b) (MemoryWithin.put (h.space_within S) ha b)
    fun _ hc => Memory.isSome_get?_put hc a b

theorem Inv.storeBytes (h : Inv s) {S : Space} {bs : List Byte} (hlen : bs.length ≤ spaceSize s.config S) :
    Inv (s.storeBytes S bs) :=
  h.setSpace (Memory.putAll_wf bs (h.space_wf S) 0) (Memory.putAll_within bs (h.space_within S) (by omega))
    fun _ hc => Memory.isSome_get?_putAll _ bs (.inr hc)

/-- A Response of at most 255 bytes is held as soon as it is committed (spec/42_frame_decode.md R130). -/
theorem Inv.commitResponse (h : Inv s) (cmd : Half) (opid : Byte) {P : List Byte} (hP : P.length ≤ 255) :
    Inv (s.commitResponse cmd opid P) := by
  have hstored : Inv (s.storeBytes .rspPayload P) := h.storeBytes hP
  refine hstored.setRsp cmd opid fun a ha => Memory.isSome_get?_putAll s.rspPayload P (.inl ?_)
  rw [BitVec.toNat_ofNat] at ha; omega

/-! ### The commands, the moves of the host, the step -/

theorem Inv.finishDecode (h : Inv s) (B : List Byte) (fb : Bool) : Inv (s.finishDecode (frameDecode B fb)) := by
  rcases frameDecode_cases B fb with ⟨e, hr⟩ | ⟨present, domain, hpd, hr⟩ <;> rw [hr]
  · exact h.setStatus (statusDecodeFail_legal e)
  · exact (h.commitResponse _ _ (framePayload_length_le B)).setStatus (statusAccept_legal present domain hpd)

theorem Inv.exec_next {i : Instr} (h : Inv s) (e : exec i s = .next t) : Inv t := by
  have hsuccess := statusSuccess_legal h.statusLegal
  cases i with
  | nop => rw [execNop_next e]; exact h
  | crcInit => rw [execCrcInit_next e]; exact (h.setCrc _).setStatus hsuccess
  | crcByte imm8 => rw [execCrcByte_next e]; exact (h.setCrc _).setStatus hsuccess
  | crcCalc =>
    rcases execCrcCalc_next e with ⟨-, rfl⟩ | ⟨-, rfl⟩
    · exact h.setStatus (statusCmdFail_legal h.statusLegal (.inr rfl))
    · exact (h.setCrc _).setStatus hsuccess
  | frmEnc =>
    have hreq : s.reqLen.toNat < 2 ^ 8 := s.reqLen.isLt
    have hframe : s.requestFrame.length ≤ spaceSize s.config .txBuf := by
      show _ ≤ 265
      rw [State.requestFrame_length]; omega
    rw [execFrmEnc_next e]
    refine (((h.storeBytes hframe).setTxCount ?_).setCrc _).setStatus hsuccess
    rw [BitVec.toNat_ofNat]; omega
  | frmDec =>
    rcases execFrmDec_next e with ⟨-, rfl⟩ | ⟨-, rfl⟩
    · exact h.setStatus (statusDecodeFail_legal _)
    · exact (h.setCrc _).finishDecode s.received s.fallbackEn
  | srst => rw [execSrst_next e]; exact h.resetRegisters

theorem Inv.served (h : Inv s) (e : Served s t) : Inv t := by
  cases e with
  | reply r => exact h.setReply r
  | register r v => exact h.writeRegValue r v
  | byte S a b hw ha => exact h.putByte ha b
  | ignored => exact h
  | command i _ hi => exact h.exec_next hi
  | illegal => exact h.setStatus (statusCmdFail_legal h.statusLegal (.inl rfl))
  | reset => exact h.hardReset

/-- Settles O51, by the cases of a step: the block idle, or one move of the host taken and served. -/
theorem stepKeepsInvariant : Obligations.StepKeepsInvariant := by
  intro s t h e
  rcases step_cases e with ⟨-, rfl⟩ | ⟨m, rest, -, hserved⟩
  · exact h
  · exact (h.takeMove rest).served hserved

end Sys2Proof.Safety
end

section
/-! PROOF. What a step leaves of what is neither register nor memory: the parameter, the moves to come, the number of
the reset (spec/00_scope.md R6, spec/10_state.md R20; logs 1, 2, 6 and 7). -/

namespace Sys2Proof.Safety

open Sys2Proof.Machine

/-- The parameter, the moves to come and the number of the reset are kept. -/
structure SameSetting (s t : State) : Prop where
  config : t.config = s.config
  pending : t.pending = s.pending
  epoch : t.epoch = s.epoch

variable {s t : State}

theorem writeReg_sameSetting (s : State) (i : Nat) (v : Word32) : SameSetting s (s.writeReg i v) := by
  unfold State.writeReg
  split
  · exact ⟨by simp, by simp, by simp⟩
  · exact ⟨rfl, rfl, rfl⟩

theorem hostWriteByte_sameSetting (s : State) (S : Space) (a : Nat) (b : Byte) :
    SameSetting s (s.hostWriteByte S a b) := by
  rcases s.hostWriteByte_cases S a b with h | ⟨-, -, h⟩ <;> rw [h]
  · exact ⟨rfl, rfl, rfl⟩
  · exact ⟨by simp, by simp, by simp⟩

theorem setCrc_setStatus_sameSetting (s : State) (c : Half) (st : BitVec 8) :
    SameSetting s ((s.setCrc c).setStatus st) := ⟨rfl, rfl, rfl⟩

theorem finishDecode_sameSetting (s : State) (c : Half) (r : DecodeResult) :
    SameSetting s ((s.setCrc c).finishDecode r) := by
  cases r with
  | accept cmd opid P present domain => exact ⟨rfl, rfl, rfl⟩
  | reject e => exact setCrc_setStatus_sameSetting ..

/-- No command, SRST included, reaches the parameter, the host's list or the number of the reset. -/
theorem exec_sameSetting {i : Instr} (h : exec i s = .next t) : SameSetting s t := by
  cases i with
  | nop => rw [execNop_next h]; exact ⟨rfl, rfl, rfl⟩
  | crcInit => rw [execCrcInit_next h]; exact setCrc_setStatus_sameSetting ..
  | crcByte imm8 => rw [execCrcByte_next h]; exact setCrc_setStatus_sameSetting ..
  | crcCalc =>
    rcases execCrcCalc_next h with ⟨-, rfl⟩ | ⟨-, rfl⟩
    · exact ⟨rfl, rfl, rfl⟩
    · exact setCrc_setStatus_sameSetting ..
  | frmEnc => rw [execFrmEnc_next h]; exact ⟨by simp, by simp, by simp⟩
  | frmDec =>
    rcases execFrmDec_next h with ⟨-, rfl⟩ | ⟨-, rfl⟩
    · exact ⟨rfl, rfl, rfl⟩
    · exact finishDecode_sameSetting ..
  | srst => rw [execSrst_next h]; exact ⟨rfl, rfl, rfl⟩

theorem issueCommand_sameSetting {w : Word32} (h : issueCommand w s = .next t) : SameSetting s t := by
  unfold issueCommand at h
  split at h
  · exact exec_sameSetting h
  · cases h; exact ⟨rfl, rfl, rfl⟩

theorem serveAction_sameSetting {h : HostAction} (hne : h ≠ .hardReset) (e : serveAction h s = .next t) :
    SameSetting s t := by
  cases h with
  | readReg i => cases e; exact ⟨rfl, rfl, rfl⟩
  | writeReg i v =>
    cases i with
    | zero => exact issueCommand_sameSetting e
    | succ i => cases e; exact writeReg_sameSetting s (i + 1) v
  | issue w => exact issueCommand_sameSetting e
  | readBuf S a => cases e; exact ⟨rfl, rfl, rfl⟩
  | writeBuf S a b => cases e; exact hostWriteByte_sameSetting s S a b
  | hardReset => exact absurd rfl hne

/-- No bus transaction stands for HardReset (spec/20_memory.md R55). -/
theorem serveBus_sameSetting {b : BusAccess} (e : serveBus b s = .next t) : SameSetting s t := by
  cases b with
  | read w addr =>
    simp only [serveBus] at e
    split at e
    case h_3 => cases e; exact ⟨rfl, rfl, rfl⟩
    case h_4 => cases e
    all_goals exact serveAction_sameSetting (by simp) e
  | write w addr data =>
    simp only [serveBus] at e
    split at e
    case h_3 => cases e; exact ⟨rfl, rfl, rfl⟩
    case h_4 => cases e
    all_goals exact serveAction_sameSetting (by simp) e

theorem serveMove_sameSetting {m : HostMove} (hne : m ≠ .action .hardReset) (e : serveMove m s = .next t) :
    SameSetting s t := by
  cases m with
  | action h => exact serveAction_sameSetting (fun hh => hne (congrArg _ hh)) e
  | bus b => exact serveBus_sameSetting e

/-- Settles O49: the move is off the list before it is served; HardReset advances the number of the reset, and every
other move keeps the whole setting. -/
theorem stepKeepsParameterAndTakesOneMove : Obligations.StepKeepsParameterAndTakesOneMove := by
  intro s t e
  rcases step_serves e with ⟨hp, rfl⟩ | ⟨m, rest, hp, hm⟩
  · simp [hp]
  · by_cases hreset : m = .action .hardReset
    · subst hreset
      cases hm
      simp [hp]
    · obtain ⟨hc, hpend, he⟩ := serveMove_sameSetting hreset hm
      simp [hp, hc, hpend, he, hreset]

end Sys2Proof.Safety
end

section
/-! PROOF. What a command leaves, as one of five forms, and where it may write (spec/10_state.md R21, R35). -/

namespace Sys2Proof.Machine

variable {s t : State} {i : Instr}

/-- What a command that goes on leaves: every command but NOP and SRST writes CRC and STATUS, some values; FRM.ENC
beside them the frame and its length, an accepting FRM.DEC the Response. A command that leaves CRC as it was writes
the value it held. -/
inductive CommandEffect (s : State) : Instr → State → Prop where
  | unchanged : CommandEffect s .nop s
  | crcAndStatus {i : Instr} (hi : i ≠ .nop) (c : Half) (st : BitVec 8) :
      CommandEffect s i ((s.setCrc c).setStatus st)
  | frame (c : Half) (st : BitVec 8) : CommandEffect s .frmEnc (((s.storeFrame s.requestFrame).setCrc c).setStatus st)
  | response (c : Half) (st : BitVec 8) (cmd : Half) (opid : Byte) (P : List Byte) :
      CommandEffect s .frmDec (((s.setCrc c).commitResponse cmd opid P).setStatus st)
  | registersReset : CommandEffect s .srst s.resetRegisters

/-- The two ends of FRM.DEC: the Response committed, or STATUS and CRC alone. -/
theorem finishDecode_effect (s : State) (c : Half) (r : DecodeResult) :
    CommandEffect s .frmDec ((s.setCrc c).finishDecode r) := by
  cases r with
  | accept cmd opid P present domain => exact .response c _ cmd opid P
  | reject e => exact .crcAndStatus (by simp) c _

theorem exec_effect (h : exec i s = .next t) : CommandEffect s i t := by
  cases i with
  | nop => rw [execNop_next h]; exact .unchanged
  | crcInit => rw [execCrcInit_next h]; exact .crcAndStatus (by simp) _ _
  | crcByte imm8 => rw [execCrcByte_next h]; exact .crcAndStatus (by simp) _ _
  | crcCalc =>
    rcases execCrcCalc_next h with ⟨-, rfl⟩ | ⟨-, rfl⟩
    · exact .crcAndStatus (by simp) s.crc _
    · exact .crcAndStatus (by simp) _ _
  | frmEnc => cases h; exact .frame _ _
  | frmDec =>
    rcases execFrmDec_next h with ⟨-, rfl⟩ | ⟨-, rfl⟩
    · exact .crcAndStatus (by simp) s.crc _
    · exact finishDecode_effect s _ _
  | srst => rw [execSrst_next h]; exact .registersReset

/-- A store into one space leaves the bytes of the others. -/
theorem State.readByte_storeBytes_ne (s : State) {S T : Space} (h : T ≠ S) (bs : List Byte) (a : Nat) :
    (s.storeBytes S bs).readByte T a = s.readByte T a := by
  rw [State.readByte_storeBytes, if_neg fun hT => h hT.1]

/-- A byte sequence that fits reads back whole. -/
theorem State.firstBytes_storeBytes (s : State) {S : Space} {bs : List Byte} (h : bs.length ≤ spaceSize s.config S) :
    (s.storeBytes S bs).firstBytes S bs.length = bs := by
  refine List.ext_getElem (by simp) fun a _ ha => ?_
  have hsize : a < spaceSize s.config S := by omega
  simp [State.readByte_storeBytes, ha, hsize]

end Sys2Proof.Machine

namespace Sys2Proof.Safety

open Sys2Proof.Machine

variable {s t : State} {i : Instr}

/-! ### What a command keeps, place by place -/

theorem exec_hostRegisters_kept (h : exec i s = .next t) (hs : i ≠ .srst) : SameHostRegisters s t := by
  cases exec_effect h with
  | unchanged => exact ⟨rfl, rfl, rfl, rfl, rfl⟩
  | crcAndStatus => exact ⟨rfl, rfl, rfl, rfl, rfl⟩
  | frame => constructor <;> simp
  | response => constructor <;> simp
  | registersReset => exact absurd rfl hs

theorem exec_txCount_kept (h : exec i s = .next t) (he : i ≠ .frmEnc) (hs : i ≠ .srst) : t.txCount = s.txCount := by
  cases exec_effect h with
  | unchanged => rfl
  | crcAndStatus => rfl
  | frame => exact absurd rfl he
  | response => simp
  | registersReset => exact absurd rfl hs

theorem exec_response_kept (h : exec i s = .next t) (hd : i ≠ .frmDec) (hs : i ≠ .srst) : SameResponse s t := by
  cases exec_effect h with
  | unchanged => exact ⟨rfl, rfl, rfl⟩
  | crcAndStatus => exact ⟨rfl, rfl, rfl⟩
  | frame => constructor <;> simp
  | response => exact absurd rfl hd
  | registersReset => exact absurd rfl hs

/-- FRM.ENC stores into TXBUF and FRM.DEC into RSP_PAYLOAD; no command stores anywhere else. -/
theorem exec_bytes_kept (h : exec i s = .next t) {S : Space} (he : i = .frmEnc → S ≠ .txBuf)
    (hd : i = .frmDec → S ≠ .rspPayload) (a : Nat) : t.readByte S a = s.readByte S a := by
  cases exec_effect h with
  | unchanged => rfl
  | crcAndStatus => simp
  | frame => simp [State.readByte_storeBytes_ne, he rfl]
  | response => simp [State.readByte_storeBytes_ne, hd rfl]
  | registersReset => simp

/-- Settles O24: each clause is the contrapositive of what the commands not listed keep. -/
theorem onlyListedCommandsWriteEachPlace : Obligations.OnlyListedCommandsWriteEachPlace := by
  intro i s t h
  refine ⟨?status, ?hostRegisters, ?crc, ?txCount, ?response, fun a => ?txBuf, fun a => ?rspPayload,
    fun a => ⟨exec_bytes_kept h (by simp) (by simp) a, exec_bytes_kept h (by simp) (by simp) a⟩⟩
  case status => rintro hne rfl; exact hne (by rw [execNop_next h])
  case crc => rintro hne rfl; exact hne (by rw [execNop_next h])
  case hostRegisters =>
    contrapose!
    intro hi
    obtain ⟨hcfg, hcmd, hopid, hlen, hrx⟩ := exec_hostRegisters_kept h hi
    exact ⟨hcfg, hcmd, hopid, hlen, hrx⟩
  case txCount =>
    contrapose!
    exact fun ⟨he, hs⟩ => exec_txCount_kept h he hs
  case response =>
    contrapose!
    intro ⟨hd, hs⟩
    obtain ⟨hcmd, hopid, hlen⟩ := exec_response_kept h hd hs
    exact ⟨hcmd, hopid, hlen⟩
  case txBuf =>
    contrapose!
    exact fun he => exec_bytes_kept h (fun hi => absurd hi he) (by simp) a
  case rspPayload =>
    contrapose!
    exact fun hd => exec_bytes_kept h (by simp) (fun hi => absurd hi hd) a

end Sys2Proof.Safety
end

section
/-! PROOF. TXBUF holds the frame of a Request from FRM.ENC to the next reset (spec/10_state.md R26,
spec/41_frame_encode.md R111). -/

namespace Sys2Proof.Safety

open Sys2Proof.Machine

variable {s t : State} {i : Instr}

/-- The frame stands as long as TX_COUNT and the bytes of TXBUF do. -/
theorem TxHoldsFrame.of_same (h : TxHoldsFrame s) (hcount : t.txCount = s.txCount)
    (hbytes : ∀ a, t.readByte .txBuf a = s.readByte .txBuf a) : TxHoldsFrame t := by
  unfold TxHoldsFrame
  rw [hcount, State.firstBytes_congr fun a _ => hbytes a]
  exact h

/-- The operand registers hold a Request that can be encoded: REQ_LEN is one byte (spec/41_frame_encode.md R114). -/
theorem request_wellFormed (s : State) : s.request.wellFormed = true := by
  have hlen : s.reqLen.toNat < 2 ^ 8 := s.reqLen.isLt
  simp only [Request.wellFormed, State.request, State.requestPayload_length, decide_eq_true_eq]
  omega

/-- FRM.ENC leaves the frame of the Request in the operand registers; 265 bytes, the longest frame, fit TXBUF and
TX_COUNT. -/
theorem storeFrame_txHoldsFrame (s : State) : TxHoldsFrame (s.storeFrame s.requestFrame) := by
  have hlen : s.reqLen.toNat < 2 ^ 8 := s.reqLen.isLt
  have hfits : s.requestFrame.length ≤ spaceSize s.config .txBuf := by
    show _ ≤ 265
    rw [State.requestFrame_length]; omega
  have hcount : (s.storeFrame s.requestFrame).txCount.toNat = s.requestFrame.length := by
    simp only [State.storeFrame_eq, State.setTxCount_txCount, State.requestFrame_length, BitVec.toNat_ofNat]
    omega
  refine .inr ⟨s.request, request_wellFormed s, ?_⟩
  calc (s.storeFrame s.requestFrame).firstBytes .txBuf (s.storeFrame s.requestFrame).txCount.toNat
      = (s.storeBytes .txBuf s.requestFrame).firstBytes .txBuf s.requestFrame.length := by
        rw [hcount]; exact State.firstBytes_congr fun a _ => State.setTxCount_readByte _ _ _ a
    _ = s.requestFrame := s.firstBytes_storeBytes hfits

/-- FRM.ENC stores a new frame, SRST forgets the count, every other command leaves TXBUF and TX_COUNT. -/
theorem TxHoldsFrame.exec_next (h : TxHoldsFrame s) (e : exec i s = .next t) : TxHoldsFrame t := by
  by_cases henc : i = .frmEnc
  · subst henc
    cases e
    exact (storeFrame_txHoldsFrame s).of_same rfl fun a => by simp
  by_cases hsrst : i = .srst
  · subst hsrst
    rw [execSrst_next e]
    exact .inl rfl
  exact h.of_same (exec_txCount_kept e henc hsrst) (exec_bytes_kept e (fun hi => absurd hi henc) (by simp))

/-- The host cannot write TXBUF or TX_COUNT (spec/10_state.md R26, R35), so only commands and the reset reach them. -/
theorem TxHoldsFrame.served (h : TxHoldsFrame s) (e : Served s t) : TxHoldsFrame t := by
  cases e with
  | reply r => exact h.of_same rfl fun a => by simp
  | register r v => exact h.of_same (by simp) fun a => by simp
  | byte S a b hw ha =>
    have hS : .txBuf ≠ S := by rintro rfl; exact absurd hw (by decide)
    exact h.of_same (by simp) (State.readByte_setSpace_ne s hS _)
  | ignored => exact h
  | command i _ hi => exact h.exec_next hi
  | illegal => exact h.of_same rfl fun a => by simp
  | reset => exact .inl rfl

/-- Settles O52, by the cases of a step: the block idle, or one move of the host taken and served. -/
theorem stepKeepsTxFrame : Obligations.StepKeepsTxFrame := by
  intro s t h e
  rcases step_cases e with ⟨-, rfl⟩ | ⟨m, rest, -, hserved⟩
  · exact h
  · have htaken : TxHoldsFrame (s.takeMove rest) := h.of_same rfl fun a => by simp
    exact htaken.served hserved

/-- Settles O50: no byte is written and no count is above 0 after reset (spec/10_state.md R42). -/
theorem resetMeetsInvariant : Obligations.ResetMeetsInvariant := by
  refine ⟨?_, .inl rfl⟩
  exact {
    configLegal := by decide
    sequencerIdle := rfl
    statusLegal := statusReset_legal
    txCountLegal := .inl rfl
    memoriesCanonical := ⟨.nil, .nil, .nil, .nil⟩
    memoriesWithin := ⟨nofun, nofun, nofun, nofun⟩
    responseHeld := fun a ha => absurd ha (Nat.not_lt_zero a) }

end Sys2Proof.Safety
end

section
/-! PROOF. The registers and bytes as the host reads and writes them (spec/10_state.md R35, R40, R42). -/

namespace Sys2Proof.Machine

/-! ### Registers and bytes by their names -/

theorem Reg.ofNumber_number (r : Reg) : Reg.ofNumber r.number = some r := by cases r <;> rfl

theorem serveAction_readReg_number (r : Reg) (s : State) :
    serveAction (.readReg r.number) s = .next (s.setReply (.word (s.regValue r))) := by
  simp [serveAction, State.readReg, Reg.ofNumber_number]

/-- Only CMD's number stands for a command (spec/10_state.md R29). -/
theorem serveAction_writeReg_number {r : Reg} (hr : r ≠ .cmd) (v : Word32) (s : State) :
    serveAction (.writeReg r.number v) s = .next (s.writeRegValue r v) := by
  cases r with
  | cmd => exact absurd rfl hr
  | _ => rfl

theorem serveAction_writeBuf_of_writable {S : Space} (hS : hostWritable S = true) (s : State) (a : Nat) (b : Byte) :
    serveAction (.writeBuf S a b) s = .next (s.writeByte S a b) := by
  simp [serveAction, State.hostWriteByte, hS]

/-- A write into a host-writable space leaves everything but the two memories the host writes. -/
theorem writeByte_frame {S : Space} (hS : hostWritable S = true) (s : State) (a : Nat) (b : Byte) :
    s.writeByte S a b
      = { s with reqPayload := (s.writeByte S a b).reqPayload, rxBuf := (s.writeByte S a b).rxBuf } := by
  unfold State.writeByte
  split
  · cases S with
    | reqPayload => rfl
    | rxBuf => rfl
    | txBuf => exact absurd hS (by decide)
    | rspPayload => exact absurd hS (by decide)
  · rfl

end Sys2Proof.Machine

namespace Sys2Proof.Safety

open Sys2Proof.Machine

/-- Settles O40, by what a write of one byte leaves at every index of every space. -/
theorem writtenByteReadsBackAlone : Obligations.WrittenByteReadsBackAlone := by
  intro s S a b hS ha
  have hw : hostWritable S = true := by rcases hS with rfl | rfl <;> rfl
  refine ⟨s.writeByte S a b, serveAction_writeBuf_of_writable hw s a b, ?_, fun T c hne => ?_, writeByte_frame hw s a b⟩
  · rw [State.readByte_writeByte, if_pos ⟨rfl, rfl, ha⟩]
  · rw [State.readByte_writeByte, if_neg fun ⟨hT, hc, _⟩ => hne ⟨hT, hc⟩]

/-- Settles O38: each access is that of the register's name, and a written value keeps its low bits. -/
theorem registerAccessRules : Obligations.RegisterAccessRules := by
  intro s v
  have hwrite : ∀ r ≠ Reg.cmd, serveAction (.writeReg r.number v) s = .next (s.writeRegValue r v) :=
    fun _ hr => serveAction_writeReg_number hr v s
  have hread : ∀ r : Reg, serveAction (.readReg r.number) s = .next (s.setReply (.word (s.regValue r))) :=
    fun r => serveAction_readReg_number r s
  refine ⟨?readWrite, fun i hi => ?readOnly, ?reads, fun S a => rfl⟩
  case readWrite =>
    simp only [← BitVec.setWidth_eq_extractLsb' (x := v), Nat.reduceLeDiff]
    exact ⟨hwrite .cfg (by decide), hwrite .reqCmd (by decide), hwrite .reqOpid (by decide),
      hwrite .reqLen (by decide), hwrite .rxCount (by decide)⟩
  case readOnly =>
    simp only [List.mem_cons, List.not_mem_nil, or_false] at hi
    rcases hi with rfl | rfl | rfl | rfl | rfl | rfl
    exacts [hwrite .status (by decide), hwrite .crc (by decide), hwrite .txCount (by decide),
      hwrite .rspCmd (by decide), hwrite .rspOpid (by decide), hwrite .rspLen (by decide)]
  case reads =>
    exact ⟨hread .cmd, hread .status, hread .cfg, hread .crc, hread .reqCmd, hread .reqOpid, hread .reqLen,
      hread .txCount, hread .rxCount, hread .rspCmd, hread .rspOpid, hread .rspLen⟩

/-- Settles O41 (spec/10_state.md R42, column "after HardReset"). -/
theorem hardResetRegisterValues : Obligations.HardResetRegisterValues := by
  intro s
  exact ⟨s.hardReset, rfl, rfl, rfl, rfl, rfl, rfl, rfl, rfl, rfl, rfl, rfl, rfl, rfl⟩

end Sys2Proof.Safety
end

section
/-! PROOF. What a command does from another STATUS or another CFG: no command reads STATUS, and FRM.DEC alone reads
CFG (spec/10_state.md R32, R33). -/

namespace Sys2Proof.Machine

variable {s : State}

/-! ### The commands that read more than CRC, run forward -/

/-- FRM.ENC stores one frame and one CRC in all states that hold the same Request (spec/41_frame_encode.md R114). -/
theorem execFrmEnc_of_request (s : State) : ∃ F c, ∀ u : State, u.request = s.request →
    exec .frmEnc u = .next (((u.storeFrame F).setCrc c).setStatus (statusSuccess u.status)) := by
  refine ⟨s.requestFrame, crc16 s.requestBody, fun u hu => ?_⟩
  have hframe : u.requestFrame = s.requestFrame :=
    congrArg (fun r : Request => frameEncode r.command r.operationID r.payload) hu
  have hbody : u.requestBody = s.requestBody :=
    congrArg (fun r : Request => frameBody r.command r.operationID r.payload) hu
  rw [← hframe, ← hbody]
  rfl

theorem execCrcCalc_of_badCount (h : s.badCount = true) :
    exec .crcCalc s = .next (s.setStatus (statusCmdFail s.status .badCount)) := by
  simp [exec, execCrcCalc, h]

theorem execCrcCalc_of_not_badCount (h : s.badCount = false) :
    exec .crcCalc s = .next ((s.setCrc (crc16 s.received)).setStatus (statusSuccess s.status)) := by
  simp [exec, execCrcCalc, h]

theorem execFrmDec_of_badCount (h : s.badCount = true) :
    exec .frmDec s = .next (s.setStatus (statusDecodeFail .badCount)) := by
  simp [exec, execFrmDec, h]

theorem execFrmDec_of_not_badCount (h : s.badCount = false) :
    exec .frmDec s = .next ((s.setCrc ((lastCrc s.received s.fallbackEn).getD s.crc)).finishDecode
      (frameDecode s.received s.fallbackEn)) := by
  simp [exec, execFrmDec, h, State.setLastCrc_eq]

/-- FRM.DEC writes STATUS whole, so the value before is lost (spec/60_exceptions.md R155). -/
theorem State.finishDecode_setStatus (s : State) (x : BitVec 8) (r : DecodeResult) :
    (s.setStatus x).finishDecode r = s.finishDecode r := by
  cases r with
  | accept cmd opid P present domain => rfl
  | reject e => rfl

end Sys2Proof.Machine

namespace Sys2Proof.Safety

open Sys2Proof.Machine

variable {s t : State} {i : Instr}

/-- Settles O36: no command but FRM.DEC and SRST has CFG among its operands, so each is the same update of either
state. -/
theorem onlyDecodeReadsFallbackBit : Obligations.OnlyDecodeReadsFallbackBit := by
  intro i s t c hd hs h
  cases i with
  | nop => rw [execNop_next h]; rfl
  | crcInit => rw [execCrcInit_next h]; rfl
  | crcByte imm8 => rw [execCrcByte_next h]; rfl
  | crcCalc =>
    rcases execCrcCalc_next h with ⟨hb, rfl⟩ | ⟨hb, rfl⟩
    · exact execCrcCalc_of_badCount hb
    · exact execCrcCalc_of_not_badCount hb
  | frmEnc =>
    obtain ⟨F, v, hrun⟩ := execFrmEnc_of_request s
    cases (hrun s rfl).symm.trans h
    exact hrun { s with cfg := c } rfl
  | frmDec => exact absurd rfl hd
  | srst => exact absurd rfl hs

/-! ### The outcome in STATUS -/

/-- Success with code 0, or failure with another code (spec/10_state.md R32 (b)). -/
def OutcomeStated (st : BitVec 8) : Prop :=
  (statusOk st = true ∧ statusErr st = 0#4) ∨ (statusOk st = false ∧ statusErr st ≠ 0#4)

theorem statusSuccess_outcomeStated (st : BitVec 8) : OutcomeStated (statusSuccess st) :=
  .inl ⟨statusOk_statusWithOutcome .., statusErr_statusWithOutcome ..⟩

theorem statusCmdFail_outcomeStated (st : BitVec 8) (e : ErrCode) : OutcomeStated (statusCmdFail st e) :=
  .inr ⟨statusOk_statusWithOutcome .., by
    rw [statusCmdFail, statusErr_statusWithOutcome]; exact e.code_ne_zero⟩

theorem statusDecodeFail_outcomeStated (e : ErrCode) : OutcomeStated (statusDecodeFail e) :=
  .inr ⟨statusOk_packStatus .., by rw [statusDecodeFail, statusErr_packStatus]; exact e.code_ne_zero⟩

theorem statusAccept_outcomeStated (present domain : Bool) : OutcomeStated (statusAccept present domain) :=
  .inl ⟨statusOk_packStatus .., statusErr_packStatus ..⟩

theorem finishDecode_outcomeStated (s : State) (r : DecodeResult) : OutcomeStated (s.finishDecode r).status := by
  cases r with
  | accept cmd opid P present domain => exact statusAccept_outcomeStated present domain
  | reject e => exact statusDecodeFail_outcomeStated e

theorem exec_outcomeStated (h : exec i s = .next t) (hn : i ≠ .nop) (hs : i ≠ .srst) : OutcomeStated t.status := by
  cases i with
  | nop => exact absurd rfl hn
  | crcInit => rw [execCrcInit_next h]; exact statusSuccess_outcomeStated _
  | crcByte imm8 => rw [execCrcByte_next h]; exact statusSuccess_outcomeStated _
  | crcCalc =>
    rcases execCrcCalc_next h with ⟨-, rfl⟩ | ⟨-, rfl⟩
    · exact statusCmdFail_outcomeStated _ _
    · exact statusSuccess_outcomeStated _
  | frmEnc => rw [execFrmEnc_next h]; exact statusSuccess_outcomeStated _
  | frmDec =>
    rcases execFrmDec_next h with ⟨-, rfl⟩ | ⟨-, rfl⟩
    · exact statusDecodeFail_outcomeStated _
    · exact finishDecode_outcomeStated _ _
  | srst => exact absurd rfl hs

/-! ### Bits 1 to 3 of STATUS -/

/-- A new outcome beside the old bits 1 to 3. -/
theorem sameDecodeBits_of_statusWithOutcome {err : BitVec 4} {ok : Bool}
    (h : t.status = statusWithOutcome s.status err ok) : SameDecodeBits s t := by
  constructor <;> simp [h]

theorem exec_sameDecodeBits (h : exec i s = .next t) (hd : i ≠ .frmDec) (hs : i ≠ .srst) : SameDecodeBits s t := by
  cases i with
  | nop => rw [execNop_next h]; exact ⟨rfl, rfl, rfl⟩
  | crcInit => rw [execCrcInit_next h]; exact sameDecodeBits_of_statusWithOutcome rfl
  | crcByte imm8 => rw [execCrcByte_next h]; exact sameDecodeBits_of_statusWithOutcome rfl
  | crcCalc =>
    rcases execCrcCalc_next h with ⟨-, rfl⟩ | ⟨-, rfl⟩
    · exact sameDecodeBits_of_statusWithOutcome rfl
    · exact sameDecodeBits_of_statusWithOutcome rfl
  | frmEnc => rw [execFrmEnc_next h]; exact sameDecodeBits_of_statusWithOutcome rfl
  | frmDec => exact absurd rfl hd
  | srst => exact absurd rfl hs

/-! ### No command reads STATUS -/

/-- From STATUS `x` the command goes on to `t` with some other STATUS, with the same outcome in it, and after FRM.DEC
the same value. -/
def SameFromStatus (i : Instr) (s t : State) (x : BitVec 8) : Prop :=
  ∃ y : BitVec 8, exec i { s with status := x } = .next { t with status := y }
    ∧ statusOk y = statusOk t.status ∧ statusErr y = statusErr t.status ∧ (i = .frmDec → y = t.status)

/-- The outcome that a command other than FRM.DEC writes is the same from every STATUS. -/
theorem sameFromStatus_of_outcome {x : BitVec 8} {err : BitVec 4} {ok : Bool} (hd : i ≠ .frmDec)
    (ht : t.status = statusWithOutcome s.status err ok)
    (h : exec i (s.setStatus x) = .next (t.setStatus (statusWithOutcome x err ok))) : SameFromStatus i s t x :=
  ⟨statusWithOutcome x err ok, h, by simp [ht], by simp [ht], fun hi => absurd hi hd⟩

/-- A command that ends in the very same state from STATUS `x`. -/
theorem sameFromStatus_of_eq {x : BitVec 8} (h : exec i (s.setStatus x) = .next t) : SameFromStatus i s t x :=
  ⟨t.status, h, rfl, rfl, fun _ => rfl⟩

theorem exec_sameFromStatus (h : exec i s = .next t) (hn : i ≠ .nop) (x : BitVec 8) : SameFromStatus i s t x := by
  cases i with
  | nop => exact absurd rfl hn
  | crcInit => rw [execCrcInit_next h]; exact sameFromStatus_of_outcome (by simp) rfl rfl
  | crcByte imm8 => rw [execCrcByte_next h]; exact sameFromStatus_of_outcome (by simp) rfl rfl
  | crcCalc =>
    rcases execCrcCalc_next h with ⟨hb, rfl⟩ | ⟨hb, rfl⟩
    · exact sameFromStatus_of_outcome (by simp) rfl (execCrcCalc_of_badCount hb)
    · exact sameFromStatus_of_outcome (by simp) rfl (execCrcCalc_of_not_badCount hb)
  | frmEnc =>
    obtain ⟨F, v, hrun⟩ := execFrmEnc_of_request s
    cases (hrun s rfl).symm.trans h
    exact sameFromStatus_of_outcome (by simp) rfl (hrun (s.setStatus x) rfl)
  | frmDec =>
    rcases execFrmDec_next h with ⟨hb, rfl⟩ | ⟨hb, rfl⟩
    · exact sameFromStatus_of_eq (execFrmDec_of_badCount hb)
    · have hrun := execFrmDec_of_not_badCount (s := s.setStatus x) hb
      have hlost := State.finishDecode_setStatus (s.setCrc ((lastCrc s.received s.fallbackEn).getD s.crc)) x
        (frameDecode s.received s.fallbackEn)
      exact sameFromStatus_of_eq (hrun.trans (congrArg _ hlost))
  | srst => rw [execSrst_next h]; exact sameFromStatus_of_eq rfl

/-! ### Illegal words and the step -/

/-- A word that is none of the seven commands reports ILLEGAL_CMD (spec/30_encoding.md R79). -/
theorem issueCommand_illegal {v : Word32} (hv : ∀ i, decodeCommand v ≠ .ok i) (s : State) :
    issueCommand v s = .next (s.setStatus (statusCmdFail s.status .illegalCmd)) := by
  unfold issueCommand
  split
  case h_1 i hi => exact absurd hi (hv i)
  case h_2 => rfl

theorem statusCmdFail_reports (s : State) (e : ErrCode) :
    Reports false e.code s (s.setStatus (statusCmdFail s.status e)) :=
  ⟨statusOk_statusWithOutcome .., statusErr_statusWithOutcome .., sameDecodeBits_of_statusWithOutcome rfl⟩

theorem OkErrAgree.of_outcomeStated (h : OutcomeStated t.status) : OkErrAgree t := by
  rcases h with ⟨hok, herr⟩ | ⟨hok, herr⟩
  · exact ⟨fun _ => herr, fun _ => .inl hok⟩
  · exact ⟨fun h1 => absurd (hok.symm.trans h1) (by simp), fun h0 => absurd h0 herr⟩

theorem OkErrAgree.of_status_zero (h : t.status = 0x00#8) : OkErrAgree t :=
  ⟨by rw [h]; decide, fun _ => .inr h⟩

theorem OkErrAgree.of_same (h : OkErrAgree s) (ht : t.status = s.status) : OkErrAgree t := by
  unfold OkErrAgree
  rw [ht]
  exact h

theorem OkErrAgree.exec_next (h : OkErrAgree s) (e : exec i s = .next t) : OkErrAgree t := by
  by_cases hn : i = .nop
  · subst hn
    rw [execNop_next e]
    exact h
  by_cases hs : i = .srst
  · subst hs
    rw [execSrst_next e]
    exact .of_status_zero rfl
  exact .of_outcomeStated (exec_outcomeStated e hn hs)

theorem OkErrAgree.served (h : OkErrAgree s) (e : Served s t) : OkErrAgree t := by
  cases e with
  | reply r => exact h.of_same rfl
  | register r v => exact h.of_same (by simp)
  | byte S a b hw ha => exact h.of_same (by simp)
  | ignored => exact h
  | command i _ hi => exact h.exec_next hi
  | illegal => exact .of_outcomeStated (statusCmdFail_outcomeStated _ _)
  | reset => exact .of_status_zero rfl

theorem OkErrAgree.step_next (h : OkErrAgree s) (e : step s = .next t) : OkErrAgree t := by
  rcases step_cases e with ⟨-, rfl⟩ | ⟨m, rest, -, hserved⟩
  · exact h
  · have htaken : OkErrAgree (s.takeMove rest) := h.of_same rfl
    exact htaken.served hserved

/-- Settles O25, clause by clause of R32. -/
theorem statusDiscipline : Obligations.StatusDiscipline := by
  refine ⟨fun i s t h => ⟨?nop, ?srst, exec_outcomeStated h, exec_sameDecodeBits h, exec_sameFromStatus h⟩,
    fun v s hv => ?illegal, OkErrAgree.of_status_zero rfl, fun s t => OkErrAgree.step_next⟩
  case nop => rintro rfl; rw [execNop_next h]
  case srst => rintro rfl; rw [execSrst_next h, State.resetRegisters_status]
  case illegal => exact ⟨_, issueCommand_illegal hv s, statusCmdFail_reports s .illegalCmd⟩

end Sys2Proof.Safety
end

section
/-! PROOF. Every host action goes on: no command and no failure stops the block (spec/20_memory.md R50,
spec/60_exceptions.md R160, R161); and the actions that reach nothing (spec/20_memory.md R57). -/

namespace Sys2Proof.Machine

/-! ### Host actions -/

/-- A failing command ends in a next state too: its code goes to STATUS (spec/60_exceptions.md R160). -/
theorem exec_goesOn (i : Instr) (s : State) : ∃ t, exec i s = .next t := by
  cases i with
  | crcCalc =>
    cases hb : s.badCount with
    | true => exact ⟨_, execCrcCalc_of_badCount hb⟩
    | false => exact ⟨_, execCrcCalc_of_not_badCount hb⟩
  | frmDec =>
    cases hb : s.badCount with
    | true => exact ⟨_, execFrmDec_of_badCount hb⟩
    | false => exact ⟨_, execFrmDec_of_not_badCount hb⟩
  | _ => exact ⟨_, rfl⟩

theorem issueCommand_of_ok {w : Word32} {i : Instr} (h : decodeCommand w = .ok i) (s : State) :
    issueCommand w s = exec i s := by
  simp only [issueCommand, h]

theorem issueCommand_of_error {w : Word32} {e : DecodeError} (h : decodeCommand w = .error e) (s : State) :
    issueCommand w s = .next (s.setStatus (statusCmdFail s.status .illegalCmd)) := by
  simp only [issueCommand, h, illegalCommand, State.raiseCmdFail_eq]

theorem issueCommand_goesOn (w : Word32) (s : State) : ∃ t, issueCommand w s = .next t := by
  cases h : decodeCommand w with
  | ok i => rw [issueCommand_of_ok h]; exact exec_goesOn i s
  | error e => exact ⟨_, issueCommand_of_error h s⟩

/-- Only number 0, CMD, stands for a command (spec/10_state.md R29). -/
theorem serveAction_writeReg_of_ne_zero {n : Nat} (hn : n ≠ 0) (v : Word32) (s : State) :
    serveAction (.writeReg n v) s = .next (s.writeReg n v) := by
  cases n with
  | zero => exact absurd rfl hn
  | succ i => rfl

theorem serveAction_goesOn (h : HostAction) (s : State) : ∃ t, serveAction h s = .next t := by
  cases h with
  | writeReg n v =>
    cases n with
    | zero => exact issueCommand_goesOn v s
    | succ i => exact ⟨_, rfl⟩
  | issue w => exact issueCommand_goesOn w s
  | _ => exact ⟨_, rfl⟩

/-! ### Actions that reach nothing -/

theorem Reg.ofNumber_of_le {i : Nat} (hi : 12 ≤ i) : Reg.ofNumber i = none := by
  unfold Reg.ofNumber
  split
  case h_13 => rfl
  all_goals omega

theorem State.readReg_of_le {i : Nat} (hi : 12 ≤ i) (s : State) : s.readReg i = 0#32 := by
  rw [State.readReg, Reg.ofNumber_of_le hi]

theorem State.writeReg_of_le {i : Nat} (hi : 12 ≤ i) (s : State) (v : Word32) : s.writeReg i v = s := by
  rw [State.writeReg, Reg.ofNumber_of_le hi]

theorem State.hostWriteByte_past {s : State} {S : Space} {a : Nat} (h : spaceSize s.config S ≤ a) (b : Byte) :
    s.hostWriteByte S a b = s := by
  rcases s.hostWriteByte_cases S a b with hsame | ⟨-, ha, -⟩
  · exact hsame
  · omega

/-! ### The step, by the move it serves -/

theorem step_of_action {s : State} {h : HostAction} {rest : List HostMove} (hp : s.pending = .action h :: rest) :
    step s = serveAction h (s.takeMove rest) := by
  rw [step, serveNext, hp]; rfl

theorem step_of_bus {s : State} {b : BusAccess} {rest : List HostMove} (hp : s.pending = .bus b :: rest) :
    step s = serveBus b (s.takeMove rest) := by
  rw [step, serveNext, hp]; rfl

theorem step_of_idle {s : State} (hp : s.pending = []) : step s = .next s := by
  rw [step, serveNext, hp]

end Sys2Proof.Machine

namespace Sys2Proof.Safety

open Sys2Proof.Machine

/-- Settles O48, by the first pending move: none, or a host action. -/
theorem hostActionsNeverStopTheBlock : Obligations.HostActionsNeverStopTheBlock := by
  refine ⟨fun s hnext => ?_, fun s => step_of_idle⟩
  cases hp : s.pending with
  | nil => exact ⟨s, step_of_idle hp⟩
  | cons m rest =>
    cases m with
    | action h => rw [step_of_action hp]; exact serveAction_goesOn h _
    | bus t => exact absurd hp (hnext t rest)

/-- A register number from 12 on reads 0 and ignores a write (spec/20_memory.md R57). -/
theorem serveAction_of_noRegister {i : Nat} (hi : 12 ≤ i) (s : State) (v : Word32) :
    serveAction (.readReg i) s = .next { s with reply := .word 0#32 } ∧ serveAction (.writeReg i v) s = .next s := by
  constructor
  · rw [serveAction, State.readReg_of_le hi]; rfl
  · rw [serveAction_writeReg_of_ne_zero (by omega), State.writeReg_of_le hi]

/-- An index past the end of its space reads 0 and ignores a write (spec/20_memory.md R57). -/
theorem serveAction_of_noByte {s : State} {S : Space} {a : Nat} (ha : spaceSize s.config S ≤ a) (b : Byte) :
    serveAction (.readBuf S a) s = .next { s with reply := .byte 0#8 }
      ∧ serveAction (.writeBuf S a b) s = .next s := by
  constructor
  · rw [serveAction, State.readByte_past s ha]; rfl
  · rw [serveAction, State.hostWriteByte_past ha]

/-- Settles O39; a read-only space is refused by `hostWritable` alone, at every index. -/
theorem unmappedActionsReadZeroWriteNothing : Obligations.UnmappedActionsReadZeroWriteNothing := by
  intro s
  exact ⟨fun i v hi => serveAction_of_noRegister hi s v, fun S a b ha => serveAction_of_noByte ha b,
    fun a b => ⟨rfl, rfl⟩⟩

end Sys2Proof.Safety
end

section
/-! PROOF. What a bus access at each address reaches (spec/20_memory.md R55 to R57). -/

namespace Sys2Proof.Machine

variable {c : Config} {s : State} {S : Space} {w : AccessWidth} {addr a i : Nat}

/-! ### The ranges of the spaces -/

/-- The ranges do not overlap, so an address lies in the range of at most one space. -/
theorem spaceAt_eq_some_iff : spaceAt addr = some S ↔ inSpaceRange S addr = true := by
  constructor
  · intro h
    unfold spaceAt at h
    split_ifs at h <;> (cases h; assumption)
  · intro h
    unfold spaceAt
    cases S <;> simp only [inSpaceRange, decide_eq_true_eq] at h ⊢
    case reqPayload => rw [if_pos h]
    case txBuf => rw [if_neg (by omega), if_pos h]
    case rspPayload => rw [if_neg (by omega), if_neg (by omega), if_pos h]
    case rxBuf => rw [if_neg (by omega), if_neg (by omega), if_neg (by omega), if_pos h]

/-- Below the first buffer, and between RSP_PAYLOAD's range and RXBUF's, there is no space. -/
theorem spaceAt_eq_none (h : addr < 0x100 ∨ (0x500 ≤ addr ∧ addr < 0x1000)) : spaceAt addr = none := by
  refine Option.eq_none_iff_forall_ne_some.mpr fun S hS => ?_
  rw [spaceAt_eq_some_iff] at hS
  cases S <;> simp only [inSpaceRange, decide_eq_true_eq] at hS <;> omega

/-- The buffers lie above the register numbers that a 32-bit access can reach. -/
theorem le_of_spaceAt_eq_some (h : spaceAt addr = some S) : 0x100 ≤ addr := by
  by_contra hlt
  rw [spaceAt_eq_none (.inl (by omega))] at h
  cases h

/-- Every index of a space lies in the space's own range (spec/20_memory.md R55). -/
theorem spaceAt_windowBase_add (ha : a < spaceSize c S) : spaceAt (windowBase S + a) = some S := by
  rw [spaceAt_eq_some_iff]
  cases S with
  | reqPayload => have h : a < 255 := ha; exact decide_eq_true (show _ ≤ 0x100 + a ∧ 0x100 + a < _ by omega)
  | txBuf => have h : a < 265 := ha; exact decide_eq_true (show _ ≤ 0x200 + a ∧ 0x200 + a < _ by omega)
  | rspPayload => have h : a < 255 := ha; exact decide_eq_true (show _ ≤ 0x400 + a ∧ 0x400 + a < _ by omega)
  | rxBuf => exact decide_eq_true (show _ ≤ 0x1000 + a by omega)

theorem inBufferWindow_windowBase_add (ha : a < spaceSize c S) : inBufferWindow c (windowBase S + a) = true := by
  simp [inBufferWindow, spaceAt_windowBase_add ha, ha]

/-! ### What an access reaches -/

/-- An access touches the byte at its own address. -/
theorem touches_of_first {test : Nat → Bool} (h : test addr = true) : touches w addr test = true := by
  refine List.any_eq_true.mpr ⟨0, List.mem_range.mpr ?_, h⟩
  cases w <;> decide

/-- A byte access at no register's byte touches none. -/
theorem not_touches_register_of_byte (h : 0x30 ≤ addr) : touches .byte addr inRegisterWindow = false := by
  simp [touches, AccessWidth.bytes, inRegisterWindow, h]

/-- 32-bit accesses below 0x100 name the register numbers 0 to 63, existing or not (spec/20_memory.md R55, R57). -/
theorem busTarget_word_register (hi : i < 64) : busTarget c .word (4 * i) = .reg i := by
  have haligned : 4 * i % 4 = 0 := by omega
  have hbelow : 4 * i < 0x100 := by omega
  simp [busTarget, AccessWidth.bytes, haligned, hbelow]

/-- A byte access in a space's range names an index of it, inside its size or not. -/
theorem busTarget_byte_of_space (h : spaceAt addr = some S) :
    busTarget c .byte addr = .buf S (addr - windowBase S) := by
  have hlow : 0x100 ≤ addr := le_of_spaceAt_eq_some h
  simp [busTarget, AccessWidth.bytes, Nat.mod_one, not_touches_register_of_byte (Nat.le_trans (by decide) hlow), h]

theorem busTarget_byte_of_none (hreg : 0x30 ≤ addr) (h : spaceAt addr = none) :
    busTarget c .byte addr = .unmapped := by
  simp [busTarget, AccessWidth.bytes, Nat.mod_one, not_touches_register_of_byte hreg, h]

theorem busTarget_byte_window (ha : a < spaceSize c S) : busTarget c .byte (windowBase S + a) = .buf S a := by
  rw [busTarget_byte_of_space (spaceAt_windowBase_add ha), Nat.add_sub_cancel_left]

/-! ### The three combinations that R56 refuses -/

theorem busTarget_misaligned (h : addr % w.bytes ≠ 0) : busTarget c w addr = .unsupported (.misaligned addr) :=
  if_pos h

theorem busTarget_narrow_register (hw : w ≠ .word) (haddr : addr < 0x30) :
    ∃ r, busTarget c w addr = .unsupported r := by
  by_cases haligned : addr % w.bytes = 0
  · have htouch : touches w addr inRegisterWindow = true := touches_of_first (by simpa [inRegisterWindow] using haddr)
    exact ⟨.registerAccessWidth addr, by simp [busTarget, haligned, hw, htouch]⟩
  · exact ⟨_, busTarget_misaligned haligned⟩

theorem busTarget_wide_buffer (hw : w ≠ .byte) (ha : a < spaceSize c S) :
    ∃ r, busTarget c w (windowBase S + a) = .unsupported r := by
  have hlow : ¬ windowBase S + a < 0x100 := Nat.not_lt.mpr (le_of_spaceAt_eq_some (spaceAt_windowBase_add ha))
  have htouch : touches w (windowBase S + a) (inBufferWindow c) = true :=
    touches_of_first (inBufferWindow_windowBase_add ha)
  by_cases haligned : (windowBase S + a) % w.bytes = 0
  · cases hreg : touches w (windowBase S + a) inRegisterWindow with
    | true => exact ⟨.registerAccessWidth (windowBase S + a), by simp [busTarget, haligned, hlow, hreg]⟩
    | false => exact ⟨.bufferAccessWidth (windowBase S + a), by simp [busTarget, haligned, hlow, hreg, hw, htouch]⟩
  · exact ⟨_, busTarget_misaligned haligned⟩

/-! ### A transaction, by its target -/

theorem serveBus_of_reg (h : busTarget s.config w addr = .reg i) (v : Word32) :
    serveBus (.read w addr) s = serveAction (.readReg i) s
      ∧ serveBus (.write w addr v) s = serveAction (.writeReg i v) s := by
  simp only [serveBus, h, and_self]

theorem serveBus_of_buf (h : busTarget s.config w addr = .buf S a) (v : Word32) :
    serveBus (.read w addr) s = serveAction (.readBuf S a) s
      ∧ serveBus (.write w addr v) s = serveAction (.writeBuf S a (v.extractLsb' 0 8)) s := by
  simp only [serveBus, h, ← BitVec.setWidth_eq_extractLsb' (x := v) (Nat.le_of_ble_eq_true rfl : 8 ≤ 32), and_self]

theorem serveBus_of_unmapped (h : busTarget s.config w addr = .unmapped) (v : Word32) :
    serveBus (.read w addr) s = .next (s.setReply (zeroReply w)) ∧ serveBus (.write w addr v) s = .next s := by
  simp only [serveBus, h, and_self]

theorem serveBus_of_unsupported (h : ∃ r, busTarget s.config w addr = .unsupported r) (v : Word32) :
    (∃ r, serveBus (.read w addr) s = .refused r) ∧ (∃ r, serveBus (.write w addr v) s = .refused r) := by
  obtain ⟨r, hr⟩ := h
  exact ⟨⟨r, by simp only [serveBus, hr]⟩, ⟨r, by simp only [serveBus, hr]⟩⟩

end Sys2Proof.Machine

namespace Sys2Proof.Safety

open Sys2Proof.Machine

variable {s : State} {addr : Nat}

/-! ### The address ranges of the statements -/

/-- The addresses of the buffer windows are those of the bytes of the spaces. -/
theorem BusBuffer.window (h : BusBuffer s addr) : ∃ S a, a < spaceSize s.config S ∧ addr = windowBase S + a := by
  rcases h with ⟨hlo, hhi⟩ | ⟨hlo, hhi⟩ | ⟨hlo, hhi⟩ | ⟨hlo, hhi⟩
  · exact ⟨.reqPayload, addr - 0x100, show _ < 255 by omega, show _ = 0x100 + _ by omega⟩
  · exact ⟨.txBuf, addr - 0x200, show _ < 265 by omega, show _ = 0x200 + _ by omega⟩
  · exact ⟨.rspPayload, addr - 0x400, show _ < 255 by omega, show _ = 0x400 + _ by omega⟩
  · exact ⟨.rxBuf, addr - 0x1000, show _ < s.config.rxCapacity by omega, show _ = 0x1000 + _ by omega⟩

/-- An unmapped address lies in no space's range, or behind the last byte of the space in whose range it lies. -/
theorem BusUnmapped.target (h : BusUnmapped s addr) :
    busTarget s.config .byte addr = .unmapped
      ∨ ∃ S a, busTarget s.config .byte addr = .buf S a ∧ spaceSize s.config S ≤ a := by
  have htail (S : Space) (hin : inSpaceRange S addr = true) (hpast : spaceSize s.config S ≤ addr - windowBase S) :
      ∃ S a, busTarget s.config .byte addr = .buf S a ∧ spaceSize s.config S ≤ a :=
    ⟨S, _, busTarget_byte_of_space (spaceAt_eq_some_iff.mpr hin), hpast⟩
  rcases h with ⟨hlo, hhi⟩ | rfl | ⟨hlo, hhi⟩ | ⟨hlo, hhi⟩ | hlo
  · exact .inl (busTarget_byte_of_none hlo (spaceAt_eq_none (.inl hhi)))
  · exact .inr (htail .reqPayload rfl (Nat.le_refl 255))
  · exact .inr (htail .txBuf (decide_eq_true (by omega)) (show 265 ≤ addr - 0x200 by omega))
  · by_cases hend : addr = 0x4FF
    · subst hend
      exact .inr (htail .rspPayload rfl (Nat.le_refl 255))
    · exact .inl (busTarget_byte_of_none (by omega) (spaceAt_eq_none (.inr ⟨by omega, hhi⟩)))
  · exact .inr (htail .rxBuf (decide_eq_true (by omega)) (show s.config.rxCapacity ≤ addr - 0x1000 by omega))

/-! ### The obligations -/

/-- Settles O44: each row of R55 is the target of its addresses. -/
theorem busAddressMap : Obligations.BusAddressMap := by
  intro s v
  have hbyte (S : Space) : ∀ a < spaceSize s.config S,
      serveBus (.read .byte (windowBase S + a)) s = serveAction (.readBuf S a) s
        ∧ serveBus (.write .byte (windowBase S + a) v) s = serveAction (.writeBuf S a (v.extractLsb' 0 8)) s :=
    fun _ ha => serveBus_of_buf (busTarget_byte_window ha) v
  refine ⟨fun i hi => ?_, hbyte .reqPayload, hbyte .txBuf, hbyte .rspPayload, hbyte .rxBuf⟩
  rw [Nat.zero_add]
  exact serveBus_of_reg (busTarget_word_register (by omega)) v

/-- Settles O45: an unmapped byte access has no target or an index past the end, an unmapped 32-bit access a register
number that does not exist. -/
theorem busUnmappedAddresses : Obligations.BusUnmappedAddresses := by
  refine fun s v => ⟨fun addr haddr => ?byte, fun i hlo hhi => ?word⟩
  case byte =>
    rcases haddr.target with htarget | ⟨S, a, htarget, hpast⟩
    · exact serveBus_of_unmapped htarget v
    · obtain ⟨hread, hwrite⟩ := serveBus_of_buf htarget v
      rw [hread, hwrite]
      exact serveAction_of_noByte hpast _
  case word =>
    obtain ⟨hread, hwrite⟩ := serveBus_of_reg (busTarget_word_register (c := s.config) (by omega : i < 64)) v
    rw [hread, hwrite]
    exact serveAction_of_noRegister hlo s v

/-- Settles O46: the three combinations of R56 have an unsupported target, the two that R55 maps stand for a host
action, and host actions go on. -/
theorem busUnsupportedAccessRefused : Obligations.BusUnsupportedAccessRefused := by
  refine fun s w addr v => ⟨fun hbad => serveBus_of_unsupported ?refused v, ?served⟩
  case refused =>
    rcases hbad with ⟨haddr, hw⟩ | ⟨rfl, hmis⟩ | ⟨hbuf, hw⟩
    · exact busTarget_narrow_register hw haddr
    · exact ⟨_, busTarget_misaligned hmis⟩
    · obtain ⟨S, a, ha, rfl⟩ := hbuf.window
      exact busTarget_wide_buffer hw ha
  case served =>
    rintro (⟨haddr, rfl, haligned⟩ | ⟨hbuf, rfl⟩)
    · obtain ⟨i, rfl⟩ := Nat.dvd_of_mod_eq_zero haligned
      obtain ⟨hread, hwrite⟩ := serveBus_of_reg (busTarget_word_register (c := s.config) (by omega : i < 64)) v
      rw [hread, hwrite]
      exact ⟨serveAction_goesOn _ s, serveAction_goesOn _ s⟩
    · obtain ⟨S, a, ha, rfl⟩ := hbuf.window
      obtain ⟨hread, hwrite⟩ := serveBus_of_buf (busTarget_byte_window ha) v
      rw [hread, hwrite]
      exact ⟨serveAction_goesOn _ s, serveAction_goesOn _ s⟩

/-- The three ways to issue a command word all reach `issueCommand` (spec/10_state.md R29, spec/20_memory.md R55). -/
theorem step_of_issue {m : HostMove} {rest : List HostMove} {w : Word32} (hp : s.pending = m :: rest)
    (hm : m = .action (.issue w) ∨ m = .action (.writeReg 0 w) ∨ m = .bus (.write .word 0 w)) :
    step s = issueCommand w (s.takeMove rest) := by
  rcases hm with rfl | rfl | rfl
  · rw [step_of_action hp]; rfl
  · rw [step_of_action hp]; rfl
  · obtain ⟨-, hwrite⟩ := serveBus_of_reg (s := s.takeMove rest) (busTarget_word_register (i := 0) (by decide)) w
    rw [step_of_bus hp, hwrite]; rfl

/-- Settles O47. -/
theorem stepRunsTheIssuedCommand : Obligations.StepRunsTheIssuedCommand := by
  refine ⟨fun s m rest hp => ⟨?action, ?bus⟩, fun s m rest w hp hm => ?issue⟩
  case action => rintro h rfl; exact step_of_action hp
  case bus => rintro b rfl; exact step_of_bus hp
  case issue =>
    rw [step_of_issue hp hm]
    exact ⟨fun i hi => issueCommand_of_ok hi _, fun e he => issueCommand_of_error he _⟩

end Sys2Proof.Safety
end

section
/-! PROOF. Doing the same again (spec/20_memory.md R58): each update of the state is one that a second time changes
nothing, and no command but CRC.BYTE writes what it reads. -/

namespace Sys2Proof.Machine

variable {s : State}

/-! ### Updates done twice -/

/-- A new outcome replaces the one before it and keeps bits 1 to 3 (spec/10_state.md R32 (b), (c)). -/
theorem statusWithOutcome_twice (st : BitVec 8) (e : BitVec 4) (k : Bool) :
    statusWithOutcome (statusWithOutcome st e k) e k = statusWithOutcome st e k := by
  rw [statusWithOutcome, statusCrcDomain_statusWithOutcome, statusCrcPresent_statusWithOutcome,
    statusRspValid_statusWithOutcome, ← statusWithOutcome]

theorem Memory.put_twice {m : Memory} (h : m.wf) (a : Nat) (b : Byte) : (m.put a b).put a b = m.put a b := by
  have hwf : (m.put a b).wf := Memory.put_wf h a b
  refine Memory.ext (Memory.put_wf hwf a b) hwf fun c => ?_
  simp only [Memory.get?_put]
  split <;> rfl

theorem Memory.putAll_twice {m : Memory} (h : m.wf) (a : Nat) (bs : List Byte) :
    (m.putAll a bs).putAll a bs = m.putAll a bs := by
  have hwf : (m.putAll a bs).wf := Memory.putAll_wf bs h a
  refine Memory.ext (Memory.putAll_wf bs hwf a) hwf fun c => ?_
  simp only [Memory.get?_putAll]
  split <;> rfl

@[simp] theorem State.setSpace_setSpace (s : State) (S : Space) (m n : Memory) :
    (s.setSpace S m).setSpace S n = s.setSpace S n := by cases S <;> rfl

theorem State.storeBytes_twice {S : Space} (h : (s.space S).wf) (bs : List Byte) :
    (s.storeBytes S bs).storeBytes S bs = s.storeBytes S bs := by
  simp only [State.storeBytes, State.setSpace_space_same, State.setSpace_setSpace, Memory.putAll_twice h]

theorem State.hostWriteByte_twice {S : Space} (h : (s.space S).wf) (a : Nat) (b : Byte) :
    (s.hostWriteByte S a b).hostWriteByte S a b = s.hostWriteByte S a b := by
  rcases s.hostWriteByte_cases S a b with hsame | ⟨hw, ha, hput⟩
  · rw [hsame, hsame]
  · rw [hput]
    simp [State.hostWriteByte, State.writeByte, hw, ha, Memory.put_twice h]

theorem State.writeReg_twice (s : State) (n : Nat) (v : Word32) : (s.writeReg n v).writeReg n v = s.writeReg n v := by
  unfold State.writeReg
  split
  case h_1 r hr => cases r <;> rfl
  case h_2 => rfl

/-- A reply is no part of what a register read returns. -/
@[simp] theorem State.setReply_readReg (s : State) (r : Reply) (n : Nat) : (s.setReply r).readReg n = s.readReg n := by
  unfold State.readReg
  split
  case h_1 r' hr => cases r' <;> rfl
  case h_2 => rfl

/-- Committing a Response again, with the CRC it came with, changes nothing. -/
theorem State.finishDecode_twice (h : s.rspPayload.wf) (c : Half) (r : DecodeResult) :
    (((s.setCrc c).finishDecode r).setCrc c).finishDecode r = (s.setCrc c).finishDecode r := by
  cases r with
  | reject e => rfl
  | accept cmd opid P present domain =>
    have hstore : ((s.setCrc c).storeBytes .rspPayload P).storeBytes .rspPayload P
        = (s.setCrc c).storeBytes .rspPayload P := State.storeBytes_twice (s := s.setCrc c) (S := .rspPayload) h P
    show ((((s.setCrc c).storeBytes .rspPayload P).storeBytes .rspPayload P).setRsp cmd opid
      (BitVec.ofNat 8 P.length)).setStatus (statusAccept present domain) = _
    rw [hstore]
    rfl

/-- Storing the frame of FRM.ENC again, with its CRC and outcome, changes nothing. -/
theorem State.storeFrame_twice (h : s.txBuf.wf) (F : List Byte) (c : Half) (st : BitVec 8) :
    ((((((s.storeFrame F).setCrc c).setStatus st).storeFrame F).setCrc c).setStatus st)
      = ((s.storeFrame F).setCrc c).setStatus st := by
  have hstore : (s.storeBytes .txBuf F).storeBytes .txBuf F = s.storeBytes .txBuf F :=
    State.storeBytes_twice (S := .txBuf) h F
  simp only [State.storeFrame_eq]
  generalize s.storeBytes .txBuf F = u at hstore ⊢
  generalize BitVec.ofNat 9 F.length = n
  show (((u.storeBytes .txBuf F).setTxCount n).setCrc c).setStatus st = _
  rw [hstore]

end Sys2Proof.Machine

namespace Sys2Proof.Safety

open Sys2Proof.Machine

variable {s t : State} {i : Instr}

/-! ### The operands stand -/

theorem MemoriesCanonical.space_wf (h : MemoriesCanonical s) (S : Space) : (s.space S).wf := by
  obtain ⟨hreq, htx, hrx, hrsp⟩ := h
  cases S
  exacts [hreq, htx, hrx, hrsp]

/-- No command but SRST writes the Request it may read. -/
theorem exec_request_kept (h : exec i s = .next t) (hs : i ≠ .srst) : t.request = s.request := by
  obtain ⟨-, hcmd, hopid, hlen, -⟩ := exec_hostRegisters_kept h hs
  have hbytes := State.firstBytes_congr (n := s.reqLen.toNat) fun a _ =>
    exec_bytes_kept h (S := .reqPayload) (by simp) (by simp) a
  simp only [State.request, State.requestPayload, hcmd, hopid, hlen, hbytes]

/-- No command but SRST writes what FRM.DEC and CRC.CALC read, apart from CRC. -/
structure SameReceived (s t : State) : Prop where
  badCount : t.badCount = s.badCount
  received : t.received = s.received
  fallbackEn : t.fallbackEn = s.fallbackEn

theorem exec_sameReceived (h : exec i s = .next t) (hs : i ≠ .srst) : SameReceived s t := by
  obtain ⟨hcfg, -, -, -, hrx⟩ := exec_hostRegisters_kept h hs
  obtain ⟨hconfig, -, -⟩ := exec_sameSetting h
  have hbytes := State.firstBytes_congr (n := s.rxCount.toNat) fun a _ =>
    exec_bytes_kept h (S := .rxBuf) (by simp) (by simp) a
  constructor
  · simp only [State.badCount, hconfig, hrx]
  · simp only [State.received, hrx, hbytes]
  · simp only [State.fallbackEn, hcfg]

/-! ### The commands issued twice -/

theorem execCrcCalc_twice (h : exec .crcCalc s = .next t) : exec .crcCalc t = .next t := by
  obtain ⟨hbad, hreceived, -⟩ := exec_sameReceived h (by simp)
  rcases execCrcCalc_next h with ⟨hb, ht⟩ | ⟨hb, ht⟩
  · rw [execCrcCalc_of_badCount (hbad.trans hb), ht]
    simp only [State.setStatus_status, statusCmdFail, statusWithOutcome_twice]
    rfl
  · rw [execCrcCalc_of_not_badCount (hbad.trans hb), hreceived, ht]
    simp only [State.setStatus_status, statusSuccess, statusWithOutcome_twice]
    rfl

theorem execFrmEnc_twice (hc : MemoriesCanonical s) (h : exec .frmEnc s = .next t) : exec .frmEnc t = .next t := by
  obtain ⟨F, c, hrun⟩ := execFrmEnc_of_request s
  rw [hrun t (exec_request_kept h (by simp))]
  cases (hrun s rfl).symm.trans h
  rw [State.setStatus_status, statusSuccess, statusSuccess, statusWithOutcome_twice]
  exact congrArg _ (State.storeFrame_twice (hc.space_wf .txBuf) F c _)

/-- The last CRC computed is the register's value at the second issue, whether one was computed or not. -/
theorem execFrmDec_twice (hc : MemoriesCanonical s) (h : exec .frmDec s = .next t) : exec .frmDec t = .next t := by
  obtain ⟨hbad, hreceived, hfb⟩ := exec_sameReceived h (by simp)
  rcases execFrmDec_next h with ⟨hb, ht⟩ | ⟨hb, ht⟩
  · rw [execFrmDec_of_badCount (hbad.trans hb), ht]; rfl
  · rw [execFrmDec_of_not_badCount (hbad.trans hb), hreceived, hfb]
    have hcrc : t.crc = (lastCrc s.received s.fallbackEn).getD s.crc := by
      rw [ht]; cases frameDecode s.received s.fallbackEn <;> simp
    have hlast : (lastCrc s.received s.fallbackEn).getD t.crc = (lastCrc s.received s.fallbackEn).getD s.crc := by
      rw [hcrc]; cases lastCrc s.received s.fallbackEn <;> rfl
    rw [hlast, ht, State.finishDecode_twice (hc.space_wf .rspPayload)]

/-- Every command but CRC.BYTE leaves a state in which it changes nothing. -/
theorem exec_twice (hc : MemoriesCanonical s) (hi : ∀ b, i ≠ .crcByte b) (h : exec i s = .next t) :
    exec i t = .next t := by
  cases i with
  | nop => rfl
  | crcInit =>
    rw [execCrcInit_next h]
    show Host.Outcome.next ((s.setCrc crcSeed).setStatus (statusSuccess (statusSuccess s.status))) = _
    rw [statusSuccess, statusSuccess, statusWithOutcome_twice]
  | crcByte imm8 => exact absurd rfl (hi imm8)
  | crcCalc => exact execCrcCalc_twice h
  | frmEnc => exact execFrmEnc_twice hc h
  | frmDec => exact execFrmDec_twice hc h
  | srst => rw [execSrst_next h]; rfl

/-- Settles O26, by what each update leaves when it is done twice. -/
theorem idempotentActionsAndCommands : Obligations.IdempotentActionsAndCommands := by
  refine ⟨fun s n S a => ⟨⟨_, rfl, rfl, ?readReg⟩, ⟨_, rfl, rfl, ?readBuf⟩⟩, fun s n v hn => ?writeReg,
    fun s S a b hc => ⟨_, rfl, ?writeBuf⟩, fun i s hc hi => ?command, fun b s => ⟨_, _, rfl, rfl, rfl⟩,
    fun v s hv _ => ⟨_, issueCommand_illegal hv s, statusOk_statusWithOutcome ..⟩⟩
  case readReg => rw [serveAction, State.setReply_readReg]; rfl
  case readBuf => rw [serveAction, State.setReply_readByte]; rfl
  case writeReg =>
    refine ⟨_, serveAction_writeReg_of_ne_zero hn v s, ?_⟩
    rw [serveAction_writeReg_of_ne_zero hn, State.writeReg_twice]
  case writeBuf => rw [serveAction, State.hostWriteByte_twice (hc.space_wf S)]
  case command =>
    obtain ⟨t, ht⟩ := exec_goesOn i s
    exact ⟨t, ht, exec_twice hc hi ht⟩

end Sys2Proof.Safety
end

section
/-! PROOF. Command words: a word is its two fields put together, a row of the opcode map covers the words of its
opcode, and so the decoder and the encoder are inverse to one another (spec/30_encoding.md R76, R78, R79). -/

namespace Sys2Proof

/-! ### The two fields of a word -/

@[simp] theorem commandFields_commandWord (op imm8 : Byte) : commandFields (commandWord op imm8) = ⟨op, imm8⟩ := by
  simp only [commandFields, commandWord, BitVec.extractLsb'_append_eq_left, BitVec.extractLsb'_append_eq_right]

@[simp] theorem commandWord_commandFields (w : Half) :
    commandWord (commandFields w).op (commandFields w).imm8 = w := BitVec.extractLsb'_append_extractLsb'

/-- Two words are equal when both fields are. -/
theorem eq_iff_commandFields (v w : Half) : v = w ↔
    (commandFields v).op = (commandFields w).op ∧ (commandFields v).imm8 = (commandFields w).imm8 := by
  constructor
  · rintro rfl; exact ⟨rfl, rfl⟩
  · rintro ⟨hop, himm⟩
    rw [← commandWord_commandFields v, hop, himm, commandWord_commandFields]

theorem commandFields_and (v w : Half) : commandFields (v &&& w) =
    ⟨(commandFields v).op &&& (commandFields w).op, (commandFields v).imm8 &&& (commandFields w).imm8⟩ := by
  simp only [commandFields, BitVec.extractLsb'_and]

/-! ### The rows of the opcode map -/

/-- The opcode of a row: the `op` field of its pattern (spec/30_encoding.md R78). -/
def OpcodeRow.opcode (r : OpcodeRow) : Byte := (commandFields r.pattern).op

variable {r : OpcodeRow} {w : Half} {i : Instr}

/-- Every row fixes the whole `op`, and every row but CRC.BYTE's fixes `imm8` at 0. -/
theorem opcodeMap_fields : ∀ r ∈ opcodeMap, (commandFields r.pattern).imm8 = 0x00#8
    ∧ commandFields r.mask = ⟨BitVec.allOnes 8, if r.opcode = 0x02#8 then 0x00#8 else BitVec.allOnes 8⟩ := by
  decide

theorem opcodeMap_opcodes_distinct : opcodeMap.Pairwise (fun p q => p.opcode ≠ q.opcode) := by decide

/-- Ground (a) of R79 speaks of the opcodes of the map. -/
theorem opKnown_iff_mem (f : CommandFields) :
    f.opKnown = true ↔ f.op ∈ [0x00#8, 0x01#8, 0x02#8, 0x03#8, 0x04#8, 0x05#8, 0xFF#8] := by
  simp [CommandFields.opKnown, or_assoc]

theorem opKnown_iff_row (f : CommandFields) : f.opKnown = true ↔ ∃ r ∈ opcodeMap, r.opcode = f.op := by
  have hopcodes : opcodeMap.map OpcodeRow.opcode = [0x00#8, 0x01#8, 0x02#8, 0x03#8, 0x04#8, 0x05#8, 0xFF#8] := rfl
  rw [opKnown_iff_mem, ← hopcodes, List.mem_map]

theorem immAllowed_iff (f : CommandFields) : f.immAllowed = true ↔ f.op = 0x02#8 ∨ f.imm8 = 0x00#8 := by
  simp [CommandFields.immAllowed]

/-- The words of a row are those with its opcode, and with `imm8` 0 unless the row is CRC.BYTE's. -/
theorem covers_iff (hr : r ∈ opcodeMap) : r.covers w = true ↔
    (commandFields w).op = r.opcode ∧ (r.opcode = 0x02#8 ∨ (commandFields w).imm8 = 0x00#8) := by
  obtain ⟨hpattern, hmask⟩ := opcodeMap_fields r hr
  rw [OpcodeRow.covers, beq_iff_eq, eq_iff_commandFields, commandFields_and, hpattern, hmask, BitVec.and_allOnes,
    ← OpcodeRow.opcode]
  by_cases hop : r.opcode = 0x02#8
  · simp [hop]
  · rw [if_neg hop, BitVec.and_allOnes, or_iff_right hop]

theorem op_of_covers (hr : r ∈ opcodeMap) (hw : r.covers w = true) : (commandFields w).op = r.opcode :=
  ((covers_iff hr).mp hw).1

/-- The word of a row's command has the row's opcode, and the operand where the row is CRC.BYTE's. -/
theorem encode_command (hr : r ∈ opcodeMap) (imm8 : Byte) :
    encode (r.command imm8) = commandWord r.opcode (if r.opcode = 0x02#8 then imm8 else 0x00#8) := by
  simp only [opcodeMap, List.mem_cons, List.not_mem_nil, or_false] at hr
  rcases hr with rfl | rfl | rfl | rfl | rfl | rfl | rfl <;> rfl

/-- A word is the word of the command of the row that covers it: no bit is dropped. -/
theorem encode_command_of_covers (hr : r ∈ opcodeMap) (hw : r.covers w = true) :
    encode (r.command (commandFields w).imm8) = w := by
  obtain ⟨hop, himm⟩ := (covers_iff hr).mp hw
  rw [encode_command hr, ← hop]
  split
  case isTrue => exact commandWord_commandFields w
  case isFalse h => rw [← himm.resolve_left (hop ▸ h), commandWord_commandFields]

/-! ### The decoder -/

/-- No two rows share an opcode, so no word is covered twice. -/
theorem opcodeMap_disjoint :
    opcodeMap.Pairwise (fun p q => ∀ w : Half, ¬ (p.covers w = true ∧ q.covers w = true)) :=
  opcodeMap_opcodes_distinct.imp_of_mem fun hp hq hne _ ⟨hpw, hqw⟩ =>
    hne ((op_of_covers hp hpw).symm.trans (op_of_covers hq hqw))

theorem eq_of_covers {p q : OpcodeRow} (hp : p ∈ opcodeMap) (hq : q ∈ opcodeMap) (hpw : p.covers w = true)
    (hqw : q.covers w = true) : p = q := by
  have : Std.Symm fun p q : OpcodeRow => ∀ w : Half, ¬ (p.covers w = true ∧ q.covers w = true) :=
    ⟨fun _ _ h w hw => h w hw.symm⟩
  by_contra hne
  exact opcodeMap_disjoint.forall hp hq hne w ⟨hpw, hqw⟩

theorem row_of_find? (h : opcodeMap.find? (fun r => r.covers w) = some r) : r ∈ opcodeMap ∧ r.covers w = true :=
  ⟨List.mem_of_find?_eq_some h, List.find?_some (p := fun r : OpcodeRow => r.covers w) h⟩

theorem decode_of_covers (hr : r ∈ opcodeMap) (hw : r.covers w = true) :
    decode w = .ok (r.command (commandFields w).imm8) := by
  unfold decode
  split
  case h_1 q hq =>
    obtain ⟨hmem, hqw⟩ := row_of_find? hq
    rw [eq_of_covers hmem hr hqw hw]
  case h_2 hnone => exact absurd hw (List.find?_eq_none.mp hnone r hr)

/-- A word that decodes is covered by a row, and decodes to the row's command. -/
theorem exists_row_of_decode_ok (h : decode w = .ok i) :
    ∃ r ∈ opcodeMap, r.covers w = true ∧ r.command (commandFields w).imm8 = i := by
  unfold decode at h
  split at h
  case h_1 r hr =>
    cases h
    obtain ⟨hmem, hw⟩ := row_of_find? hr
    exact ⟨r, hmem, hw, rfl⟩
  case h_2 => cases h

theorem decode_encode (i : Instr) : decode (encode i) = .ok i := by
  cases i with
  | crcByte imm8 =>
    have hrow : opcodeMap[2] ∈ opcodeMap := List.getElem_mem _
    have hcovers : opcodeMap[2].covers (encode (.crcByte imm8)) = true :=
      (covers_iff hrow).mpr ⟨by rw [encode, commandFields_commandWord]; rfl, .inl rfl⟩
    rw [decode_of_covers hrow hcovers, encode, commandFields_commandWord]
    rfl
  | _ => rfl

theorem encode_of_decode_ok (h : decode w = .ok i) : encode i = w := by
  obtain ⟨r, hr, hw, rfl⟩ := exists_row_of_decode_ok h
  exact encode_command_of_covers hr hw

theorem decode_eq_ok_iff : decode w = .ok i ↔ encode i = w :=
  ⟨encode_of_decode_ok, fun h => h ▸ decode_encode i⟩

theorem encode_injective : Function.Injective encode := fun i j h => by
  have hdecoded := decode_encode j
  rw [← h, decode_encode i] at hdecoded
  exact Except.ok.inj hdecoded

/-! ### Legal words -/

/-- The legal words are those on which neither ground of R79 stands. -/
theorem decodes_iff_wellFormed (w : Half) : (∃ i, decode w = .ok i) ↔ (commandFields w).wellFormed = true := by
  rw [CommandFields.wellFormed, Bool.and_eq_true, opKnown_iff_row, immAllowed_iff]
  constructor
  · rintro ⟨i, hi⟩
    obtain ⟨r, hr, hw, -⟩ := exists_row_of_decode_ok hi
    obtain ⟨hop, himm⟩ := (covers_iff hr).mp hw
    exact ⟨⟨r, hr, hop.symm⟩, hop ▸ himm⟩
  · rintro ⟨⟨r, hr, hop⟩, himm⟩
    exact ⟨_, decode_of_covers hr ((covers_iff hr).mpr ⟨hop.symm, hop ▸ himm⟩)⟩

/-- The illegal words are those on which ground (a) or ground (b) of R79 stands. -/
theorem not_decodes_iff (w : Half) : (∀ i, decode w ≠ .ok i) ↔
    ((commandFields w).op ∉ [0x00#8, 0x01#8, 0x02#8, 0x03#8, 0x04#8, 0x05#8, 0xFF#8]
      ∨ ((commandFields w).op ≠ 0x02#8 ∧ (commandFields w).imm8 ≠ 0x00#8)) := by
  rw [← not_exists, decodes_iff_wellFormed, CommandFields.wellFormed, Bool.and_eq_true, not_and_or, opKnown_iff_mem,
    immAllowed_iff, not_or]

/-- Every command, each CRC.BYTE with its operand. -/
def everyInstr : List Instr :=
  [.nop, .crcInit, .crcCalc, .frmEnc, .frmDec, .srst] ++ (FinEnum.toList Byte).map .crcByte

theorem mem_everyInstr (i : Instr) : i ∈ everyInstr := by
  cases i <;> simp [everyInstr]

theorem everyInstr_nodup : everyInstr.Nodup := by
  have hbytes : ((FinEnum.toList Byte).map Instr.crcByte).Nodup :=
    FinEnum.nodup_toList.map fun a b h => by cases h; rfl
  refine List.nodup_append'.mpr ⟨by decide, hbytes, ?_⟩
  simp [List.disjoint_left]

theorem everyInstr_length : everyInstr.length = 262 := by
  rw [everyInstr, List.length_append, List.length_map, FinEnum.toList, List.length_map, List.length_finRange,
    FinEnum.card_bitVec]
  rfl

/-- The words of all commands (spec/30_encoding.md R79). -/
def legalWords : List Half := everyInstr.map encode

theorem mem_legalWords (w : Half) : w ∈ legalWords ↔ ∃ i, decode w = .ok i := by
  simp [legalWords, mem_everyInstr, decode_eq_ok_iff]

theorem legalWords_nodup : legalWords.Nodup := everyInstr_nodup.map encode_injective

theorem legalWords_length : legalWords.length = 262 := by
  rw [legalWords, List.length_map, everyInstr_length]

/-- All the other words. -/
noncomputable def illegalWords : List Half := legalWords.toFinsetᶜ.toList

theorem mem_illegalWords (w : Half) : w ∈ illegalWords ↔ ∀ i, decode w ≠ .ok i := by
  rw [illegalWords, Finset.mem_toList, Finset.mem_compl, List.mem_toFinset, mem_legalWords, not_exists]

theorem illegalWords_nodup : illegalWords.Nodup := Finset.nodup_toList _

theorem illegalWords_length : illegalWords.length = 65274 := by
  rw [illegalWords, Finset.length_toList, Finset.card_compl, List.toFinset_card_of_nodup legalWords_nodup,
    legalWords_length, ← FinEnum.card_eq_fintypeCard, FinEnum.card_bitVec]
  norm_num

/-! ### The value written to CMD -/

/-- Bits 31:16 are dropped before the word is decoded. -/
theorem decodeCommand_append (hi lo : Half) : decodeCommand (hi ++ lo) = decode lo := by
  rw [decodeCommand, BitVec.setWidth_append_eq_right]

end Sys2Proof

namespace Sys2Proof.Safety

open Sys2Proof.Machine

/-- Settles O1, row by row of the opcode map. -/
theorem decodeEncodeAgree : Obligations.DecodeEncodeAgree :=
  ⟨fun i _ => decode_encode i, fun _ _ => encode_of_decode_ok⟩

/-- Settles O2: each word is the word of its command, bit for bit. -/
theorem writtenWordsDecode : Obligations.WrittenWordsDecode :=
  ⟨decode_encode .nop, decode_encode .crcInit, decode_encode (.crcByte 0x55#8), decode_encode .crcCalc,
    decode_encode .frmEnc, decode_encode .frmDec, decode_encode .srst⟩

/-- Settles O3: each row fixes the whole opcode, and no two rows share one. -/
theorem opcodeRowsDisjoint : Obligations.OpcodeRowsDisjoint := opcodeMap_disjoint

/-- Settles O4, the grounds, the report and the two counts. -/
theorem illegalWordsReportAndChangeNothingElse : Obligations.IllegalWordsReportAndChangeNothingElse :=
  ⟨not_decodes_iff,
    fun _ s hv => ⟨_, issueCommand_illegal hv s, rfl, statusCmdFail_reports s .illegalCmd⟩,
    ⟨legalWords, legalWords_nodup, legalWords_length, mem_legalWords⟩,
    ⟨illegalWords, illegalWords_nodup, illegalWords_length, mem_illegalWords⟩⟩

/-- Settles O5. -/
theorem issueIgnoresHighHalf : Obligations.IssueIgnoresHighHalf := fun hi i s =>
  issueCommand_of_ok ((decodeCommand_append hi _).trans (decode_encode i)) s

end Sys2Proof.Safety
end

section
/-! PROOF. What the pure decoder reads of a byte sequence (spec/30_encoding.md R73 to R75): an accepted sequence holds
its whole payload, and without a CRC only the length, the start byte and the fields decide. -/

namespace Sys2Proof.Machine

variable {B C : List Byte} {fb : Bool}

/-! ### An accepted sequence -/

/-- The decoder accepts only the fields of a sequence that holds header and payload. -/
theorem frameDecode_accept {cmd : Half} {opid : Byte} {P : List Byte} {p d : Bool}
    (h : frameDecode B fb = .accept cmd opid P p d) :
    8 ≤ B.length ∧ frameRequired B ≤ B.length ∧ cmd = frameCommand B ∧ opid = frameOpid B ∧ P = framePayload B := by
  unfold frameDecode acceptFrame at h
  split_ifs at h
  all_goals
    cases h
    exact ⟨by omega, by omega, rfl, rfl, rfl⟩

/-- A sequence that holds header and payload has exactly `len` payload bytes. -/
theorem framePayload_length (h : frameRequired B ≤ B.length) : (framePayload B).length = (frameLen B).toNat := by
  simp only [framePayload, frameSpan, List.length_drop, List.length_take, min_eq_left h]
  exact Nat.add_sub_cancel_left ..

theorem getElem?_eq_byteAt {k : Nat} (h : k < B.length) : B[k]? = some (byteAt B k) := by
  simp [byteAt, h]

/-! ### A sequence too short for a CRC -/

/-- Where no CRC is present, two sequences with the same length, start byte and fields are decoded alike. -/
theorem frameDecode_congr (hcrc : B.length < frameRequired B + 2) (hlength : C.length = B.length)
    (hstart : byteAt C 0 = byteAt B 0) (hrequired : frameRequired C = frameRequired B)
    (haccept : acceptFrame C false false = acceptFrame B false false) : frameDecode C fb = frameDecode B fb := by
  simp only [frameDecode, hlength, hstart, hrequired, haccept, if_pos hcrc]

theorem byteAt_set_ne {j k : Nat} (h : k ≠ j) (b : Byte) : byteAt (B.set k b) j = byteAt B j := by
  simp [byteAt, List.getD_eq_getElem?_getD, List.getElem?_set_ne h]

theorem frameRequired_set {k : Nat} (h : k ≠ 5) (b : Byte) : frameRequired (B.set k b) = frameRequired B := by
  rw [frameRequired, frameLen, byteAt_set_ne h, frameRequired, frameLen]

/-- The fields that a Response takes lie in bytes 3, 4, 5 and 7 and from 8 on (spec/30_encoding.md R73, R75). -/
theorem acceptFrame_set {k : Nat} (hk : k = 1 ∨ k = 2 ∨ k = 6) (b : Byte) (p d : Bool) :
    acceptFrame (B.set k b) p d = acceptFrame B p d := by
  have hcmd : frameCommand (B.set k b) = frameCommand B := by
    rw [frameCommand, byteAt_set_ne (by omega), byteAt_set_ne (by omega), frameCommand]
  have hopid : frameOpid (B.set k b) = frameOpid B := byteAt_set_ne (by omega) b
  have hpayload : framePayload (B.set k b) = framePayload B := by
    rw [framePayload, frameSpan, frameRequired_set (by omega), List.take_set,
      List.drop_set_of_lt (show k < headerLength by rw [headerLength]; omega), framePayload, frameSpan]
  rw [acceptFrame, hcmd, hopid, hpayload, acceptFrame]

end Sys2Proof.Machine

namespace Sys2Proof.Safety

open Sys2Proof.Machine

/-- Settles O32: the payload is the `len` bytes after the header, all of them there. -/
theorem acceptedPayloadHasDeclaredLength : Obligations.AcceptedPayloadHasDeclaredLength := by
  intro B fb cmd opid P p d h
  obtain ⟨hheader, hrequired, -, -, rfl⟩ := frameDecode_accept h
  have hlen : BitVec.ofNat 8 (framePayload B).length = byteAt B 5 := by
    rw [framePayload_length hrequired, BitVec.ofNat_toNat, BitVec.setWidth_eq, frameLen]
  exact ⟨by rw [hlen, getElem?_eq_byteAt (by omega)], framePayload_length_le B⟩

/-- Settles O33: no test and no field reads byte 1, 2 or 6; only a CRC would. -/
theorem bytesOneTwoSixNotExamined : Obligations.BytesOneTwoSixNotExamined := by
  intro B fb k b hk hshort
  have hcrc : B.length < frameRequired B + 2 := by
    rw [frameRequired, frameLen, headerLength, byteAt]
    omega
  exact frameDecode_congr hcrc List.length_set (byteAt_set_ne (by omega) b) (frameRequired_set (by omega) b)
    (acceptFrame_set hk b false false)

end Sys2Proof.Safety
end

section
/-! PROOF. The CRC functions (spec/40_crc.md R90 to R92, R95): the bit-step is a linear bijection, so the byte-step is
a bijection in the running value and injective in the byte, one changed byte changes the checksum, and a message followed
by its own checksum has checksum 0. -/

namespace Sys2Proof.Machine

/-! ### The bit-step -/

/-- The shift is logical (spec/40_crc.md R90). -/
theorem ushiftRight_one_getLsbD_15 (c : Half) : (c >>> 1).getLsbD 15 = false := by simp

/-- Bit 15 of the result says whether the XOR was applied: the shift clears it, the polynomial has it set. -/
theorem crcBit_getLsbD_15 (c : Half) : (crcBit c).getLsbD 15 = c.getLsbD 0 := by
  have hpoly : crcPoly.getLsbD 15 = true := by decide
  rw [crcBit_eq, BitVec.getLsbD_xor, ushiftRight_one_getLsbD_15]
  cases c.getLsbD 0 <;> simp [hpoly]

/-- A value is its low bit and its logical shift put together. -/
theorem eq_of_getLsbD_zero_of_ushiftRight_one {c d : Half} (hlow : c.getLsbD 0 = d.getLsbD 0)
    (hshift : c >>> 1 = d >>> 1) : c = d := by
  refine BitVec.eq_of_getLsbD_eq fun i _ => ?_
  cases i with
  | zero => exact hlow
  | succ i =>
    have hi := congrArg (·.getLsbD i) hshift
    simpa [Nat.add_comm 1 i] using hi

/-- Bit 15 recovers the low bit and with it the XOR, and the rest recovers the shift (spec/40_crc.md R95 (a)). -/
theorem crcBit_injective : Function.Injective crcBit := fun c d h => by
  have hlow : c.getLsbD 0 = d.getLsbD 0 := by rw [← crcBit_getLsbD_15, h, crcBit_getLsbD_15]
  rw [crcBit_eq, crcBit_eq, hlow, BitVec.xor_left_inj] at h
  exact eq_of_getLsbD_zero_of_ushiftRight_one hlow h

theorem crcBit_xor (x y : Half) : crcBit (x ^^^ y) = crcBit x ^^^ crcBit y := by
  have hpoly : (if (x ^^^ y).getLsbD 0 then crcPoly else 0#16)
      = (if x.getLsbD 0 then crcPoly else 0#16) ^^^ (if y.getLsbD 0 then crcPoly else 0#16) := by
    rw [BitVec.getLsbD_xor]
    cases x.getLsbD 0 <;> cases y.getLsbD 0 <;> simp
  rw [crcBit_eq, hpoly, BitVec.ushiftRight_xor_distrib, crcBit_eq, crcBit_eq]
  ac_rfl

/-- Bit-steps on a value whose low bits are 0 shift and never XOR. -/
theorem crcBit_iterate_of_low_zero (n : Nat) {c : Half} (h : ∀ i < n, c.getLsbD i = false) :
    crcBit^[n] c = c >>> n := by
  induction n generalizing c with
  | zero => simp
  | succ n ih =>
    have hfirst : crcBit c = c >>> 1 := by rw [crcBit_eq, h 0 (by omega)]; simp
    have hrest : ∀ i < n, (c >>> 1).getLsbD i = false := fun i hi => by
      rw [BitVec.getLsbD_ushiftRight]; exact h (1 + i) (by omega)
    rw [Function.iterate_succ_apply, hfirst, ih hrest, ← BitVec.shiftRight_add, Nat.add_comm]

/-! ### The byte-step -/

theorem crcByte_eq_iterate (c : Half) (b : Byte) : crcByte c b = crcBit^[8] (c ^^^ b.setWidth 16) := rfl

theorem crcByte_injective_value (b : Byte) : Function.Injective (fun c => crcByte c b) :=
  fun c d (h : crcByte c b = crcByte d b) => by
  rw [crcByte_eq_iterate, crcByte_eq_iterate] at h
  exact (BitVec.xor_left_inj _).mp (crcBit_injective.iterate 8 h)

theorem crcByte_injective_byte (c : Half) : Function.Injective (crcByte c) := fun b d h => by
  rw [crcByte_eq_iterate, crcByte_eq_iterate] at h
  have hwide : b.setWidth 16 = d.setWidth 16 := (BitVec.xor_right_inj c).mp (crcBit_injective.iterate 8 h)
  simpa using congrArg (BitVec.setWidth 8) hwide

/-- Eight bit-steps are linear with each of them. -/
theorem crcByte_eq_xor (c : Half) (b : Byte) : crcByte c b = crcByte c 0#8 ^^^ crcByte 0#16 b := by
  have hlinear : Function.Semiconj₂ crcBit (· ^^^ ·) (· ^^^ ·) := crcBit_xor
  have hsplit := (hlinear.iterate 8) c (b.setWidth 16)
  simpa [crcByte_eq_iterate] using hsplit

/-- The byte reaches the low byte of the running value only (spec/40_crc.md R91). -/
theorem getLsbD_xor_byte_of_le (c : Half) (b : Byte) {k : Nat} (hk : 8 ≤ k) :
    (c ^^^ b.setWidth 16).getLsbD k = c.getLsbD k := by
  have hbyte : (b.setWidth 16).getLsbD k = false := by
    rw [BitVec.getLsbD_setWidth, BitVec.getLsbD_of_ge b k hk, Bool.and_false]
  rw [BitVec.getLsbD_xor, hbyte, Bool.xor_false]

/-! ### The checksum -/

theorem crcFrom_injective_value (B : List Byte) : Function.Injective (fun c => crcFrom c B) := by
  induction B with
  | nil => exact fun _ _ h => h
  | cons b B ih => exact ih.comp (crcByte_injective_value b)

/-- The byte-steps at the changed byte differ, and the bytes after it keep them apart (spec/40_crc.md R95 (c)). -/
theorem crc16_ne_of_byte_ne (X Y : List Byte) {b b' : Byte} (h : b ≠ b') :
    crc16 (X ++ b :: Y) ≠ crc16 (X ++ b' :: Y) := by
  rw [crc16, crc16, crcFrom_append, crcFrom_append, crcFrom_cons, crcFrom_cons]
  exact fun he => h (crcByte_injective_byte _ (crcFrom_injective_value Y he))

theorem crc16_set_ne {B : List Byte} {k : Nat} {b : Byte} (hk : k < B.length) (h : B[k]? ≠ some b) :
    crc16 (B.set k b) ≠ crc16 B := by
  have hbyte : b ≠ B[k] := fun he => h (by rw [he, List.getElem?_eq_getElem hk])
  have hold : B.take k ++ B[k] :: B.drop (k + 1) = B := by simp
  rw [List.set_eq_take_append_cons_drop, if_pos hk]
  conv_rhs => rw [← hold]
  exact crc16_ne_of_byte_ne _ _ hbyte

/-- The checksum takes the bytes in order (spec/40_crc.md R92). -/
theorem crc16_concat (B : List Byte) (b : Byte) : crc16 (B ++ [b]) = crcByte (crc16 B) b := by
  rw [crc16, crcFrom_append, ← crc16, crcFrom_cons, crcFrom_nil]

/-! ### The residue -/

/-- The first byte of the trailer clears the low byte, so eight shifts leave the high byte. -/
theorem crcByte_lowByte (c : Half) : crcByte c (lowByte c) = (highByte c).setWidth 16 := by
  have hlow : ∀ i < 8, (c ^^^ (lowByte c).setWidth 16).getLsbD i = false := fun i hi => by
    simp [lowByte, hi, show i < 16 by omega]
  rw [crcByte_eq_iterate, crcBit_iterate_of_low_zero 8 hlow]
  refine BitVec.eq_of_getLsbD_eq fun i hi => ?_
  by_cases hi8 : i < 8
  · simp [lowByte, highByte, hi, hi8]
  · simp [lowByte, highByte, hi8, BitVec.getLsbD_of_ge c (8 + i) (by omega)]

/-- The second byte clears the rest, and bit-steps of 0 give 0. -/
theorem crcByte_setWidth_self (b : Byte) : crcByte (b.setWidth 16) b = 0x0000#16 := by
  rw [crcByte_eq_iterate, BitVec.xor_self, crcBit_iterate_of_low_zero 8 (by simp)]
  rfl

theorem crcFrom_crcTrailer (c : Half) : crcFrom c (crcTrailer c) = 0x0000#16 := by
  rw [crcTrailer, crcFrom_cons, crcFrom_cons, crcFrom_nil, crcByte_lowByte, crcByte_setWidth_self]

/-- A message followed by its own checksum has checksum 0 (spec/40_crc.md R95 (e)). -/
theorem crc16_append_crcTrailer (M : List Byte) : crc16 (M ++ crcTrailer (crc16 M)) = 0x0000#16 := by
  rw [crc16, crcFrom_append, ← crc16, crcFrom_crcTrailer]

end Sys2Proof.Machine

namespace Sys2Proof.Safety

open Sys2Proof.Machine

/-- Settles O7: on finitely many values injective is bijective. -/
theorem crcStepsAreBijections : Obligations.CrcStepsAreBijections :=
  ⟨crcBit_injective.bijective_of_finite, crcBit_getLsbD_15,
    fun b => (crcByte_injective_value b).bijective_of_finite, crcByte_injective_byte⟩

/-- Settles O8. -/
theorem crcDetectsOneChangedByte : Obligations.CrcDetectsOneChangedByte := fun X Y _ _ => crc16_ne_of_byte_ne X Y

/-- Settles O9. -/
theorem crcStepsAreLinear : Obligations.CrcStepsAreLinear := ⟨crcBit_xor, crcByte_eq_xor⟩

/-- Settles O10. -/
theorem crcResidueIsZero : Obligations.CrcResidueIsZero := crc16_append_crcTrailer

/-- Settles O6: the model's functions are the rules' equations, and the examples are evaluated. -/
theorem crcFunctionsFollowTheirRules : Obligations.CrcFunctionsFollowTheirRules :=
  ⟨fun _ => rfl, ushiftRight_one_getLsbD_15, by decide, crcByte_eq_iterate, fun c b _ => getLsbD_xor_byte_of_le c b,
    by decide, by decide, rfl, crc16_concat, fun _ => rfl, crcFrom_append⟩

end Sys2Proof.Safety
end

section
/-! PROOF. The CRC commands (spec/40_crc.md R97 to R99): each that succeeds is one write of CRC and of the outcome in
STATUS, and CRC.CALC is CRC.INIT followed by one CRC.BYTE per received byte. -/

namespace Sys2Proof.Machine

variable {s : State}

theorem execCrcInit_eq (s : State) :
    exec .crcInit s = .next ((s.setCrc crcSeed).setStatus (statusSuccess s.status)) := by
  rw [exec, execCrcInit, State.succeed_eq, State.setCrc_status]

theorem execCrcByte_eq (b : Byte) (s : State) :
    exec (.crcByte b) s = .next ((s.setCrc (crcByte s.crc b)).setStatus (statusSuccess s.status)) := by
  rw [exec, execCrcByte, State.succeed_eq, State.setCrc_status]

theorem statusSuccess_twice (st : BitVec 8) : statusSuccess (statusSuccess st) = statusSuccess st :=
  statusWithOutcome_twice st 0#4 true

theorem State.badCount_eq_false_iff : s.badCount = false ↔ s.rxCount.toNat ≤ s.config.rxCapacity := by
  simp [State.badCount]

theorem State.badCount_eq_true_iff : s.badCount = true ↔ s.config.rxCapacity < s.rxCount.toNat := by
  simp [State.badCount]

/-- The source's example, the header of V-D5 (spec/40_crc.md R99). -/
theorem crc16_sourceHeader :
    crc16 [0x55#8, 0x60#8, 0x01#8, 0x07#8, 0xC0#8, 0x00#8, 0x00#8, 0x01#8] = 0xDFAC#16 := by decide +kernel

/-! ### Two bytes of a word -/

/-- Little-endian: the low byte comes first and lies below (spec/30_encoding.md R73). -/
theorem joinBytes_eq_append (lo hi : Byte) : joinBytes lo hi = hi ++ lo := by
  rw [← joinBytes_lowByte_highByte (hi ++ lo), lowByte, highByte, BitVec.extractLsb'_append_eq_right,
    BitVec.extractLsb'_append_eq_left]

/-- The word of CRC.BYTE is its operand above the opcode (spec/30_encoding.md R76, R78). -/
theorem encode_crcByte (b : Byte) : encode (.crcByte b) = (b.setWidth 16 <<< 8) ||| 0x0002#16 := by
  rw [encode, commandWord, ← joinBytes_eq_append, joinBytes, BitVec.or_comm]
  rfl

end Sys2Proof.Machine

namespace Sys2Proof.Safety

open Sys2Proof.Machine

/-! ### A write of CRC and of the outcome -/

theorem setCrc_statusSuccess_reports (s : State) (c : Half) :
    Reports true 0#4 s ((s.setCrc c).setStatus (statusSuccess s.status)) :=
  ⟨statusOk_statusWithOutcome .., statusErr_statusWithOutcome .., sameDecodeBits_of_statusWithOutcome rfl⟩

theorem setCrc_setStatus_sameBytes (s : State) (c : Half) (st : BitVec 8) :
    SameBytes s ((s.setCrc c).setStatus st) := fun S a => by
  rw [State.setStatus_readByte, State.setCrc_readByte]

theorem setStatus_sameBytes (s : State) (st : BitVec 8) : SameBytes s (s.setStatus st) :=
  s.setStatus_readByte st

/-- Once success is reported, one CRC.BYTE per byte moves CRC alone. -/
theorem runCommands_crcByte (B : List Byte) (s : State) (c : Half) :
    runCommands (B.map .crcByte) ((s.setCrc c).setStatus (statusSuccess s.status))
      = .next ((s.setCrc (crcFrom c B)).setStatus (statusSuccess s.status)) := by
  induction B generalizing c with
  | nil => rfl
  | cons b B ih =>
    have hbyte : exec (.crcByte b) ((s.setCrc c).setStatus (statusSuccess s.status))
        = .next ((s.setCrc (crcByte c b)).setStatus (statusSuccess s.status)) := by
      rw [execCrcByte_eq, State.setStatus_status, statusSuccess_twice]
      rfl
    rw [List.map_cons, runCommands, hbyte, crcFrom_cons]
    exact ih (crcByte c b)

/-- The incremental form of the checksum of a byte sequence (spec/40_crc.md R99). -/
theorem runCommands_crcInit_crcByte (B : List Byte) (s : State) :
    runCommands (.crcInit :: B.map .crcByte) s
      = .next ((s.setCrc (crc16 B)).setStatus (statusSuccess s.status)) := by
  rw [runCommands, execCrcInit_eq]
  exact runCommands_crcByte B s crcSeed

/-- Settles O13. -/
theorem crcInitLoadsSeed : Obligations.CrcInitLoadsSeed := by
  refine ⟨fun s => ⟨_, execCrcInit_eq s, rfl, setCrc_statusSuccess_reports s _, setCrc_setStatus_sameBytes s _ _, ?_⟩,
    rfl⟩
  rw [execCrcInit_eq, State.setStatus_status, statusSuccess_twice]
  rfl

/-- Settles O14. -/
theorem crcByteAbsorbsOneByte : Obligations.CrcByteAbsorbsOneByte :=
  ⟨fun b s => ⟨_, execCrcByte_eq b s, rfl, setCrc_statusSuccess_reports s _, setCrc_setStatus_sameBytes s _ _⟩,
    encode_crcByte, by decide, by decide, by decide⟩

/-- Settles O15: the two clauses are the two branches of the test on RX_COUNT. -/
theorem crcCalcChecksumsReceivedBytes : Obligations.CrcCalcChecksumsReceivedBytes := by
  refine ⟨fun s hcount => ?_, fun s hcount => ?_, rfl, crc16_sourceHeader⟩
  · have hrun := execCrcCalc_of_not_badCount (State.badCount_eq_false_iff.mpr hcount)
    have hempty : s.rxCount.toNat = 0 → crc16 s.received = 0xFFFF#16 := fun h0 => by
      rw [List.length_eq_zero_iff.mp (s.received_length.trans h0)]
      rfl
    exact ⟨_, hrun, rfl, hempty, setCrc_statusSuccess_reports s _, setCrc_setStatus_sameBytes s _ _,
      runCommands_crcInit_crcByte s.received s⟩
  · have hrun := execCrcCalc_of_badCount (State.badCount_eq_true_iff.mpr hcount)
    exact ⟨_, hrun, rfl, statusCmdFail_reports s .badCount, setStatus_sameBytes s _⟩

end Sys2Proof.Safety
end

section
/-! PROOF. One changed byte in a frame (spec/40_crc.md R95 (c), (e); spec/42_frame_decode.md R122, R126): a sequence
whose trailing CRC matches has checksum 0 over all its bytes, and a frame with one changed byte has not. -/

namespace Sys2Proof.Machine

variable {B : List Byte}

/-! ### A frame and its trailer -/

theorem crcTrailer_joinBytes (lo hi : Byte) : crcTrailer (joinBytes lo hi) = [lo, hi] := by
  rw [joinBytes_eq_append, crcTrailer, lowByte, highByte, BitVec.extractLsb'_append_eq_right,
    BitVec.extractLsb'_append_eq_left]

/-- A sequence with no byte after the CRC is its span and the CRC's two bytes (spec/30_encoding.md R73). -/
theorem frameSpan_append_crcTrailer (h : B.length = frameRequired B + 2) :
    frameSpan B ++ crcTrailer (frameRxCrc B) = B := by
  have hlo : B[frameRequired B]? = some (byteAt B (frameRequired B)) := getElem?_eq_byteAt (by omega)
  have hhi : B[frameRequired B + 1]? = some (byteAt B (frameRequired B + 1)) := getElem?_eq_byteAt (by omega)
  have hend : B.take (frameRequired B + 2) = B := by rw [← h, List.take_length]
  rw [List.take_add_one, List.take_add_one, hlo, hhi] at hend
  rw [frameRxCrc, crcTrailer_joinBytes, frameSpan]
  simpa using hend

/-- The receiver's other check of a full-span CRC (spec/40_crc.md R95 (e)). -/
theorem crc16_eq_zero_of_frameRxCrc_eq (h : B.length = frameRequired B + 2)
    (hcrc : frameRxCrc B = crc16 (frameSpan B)) : crc16 B = 0x0000#16 := by
  rw [← frameSpan_append_crcTrailer h, hcrc, crc16_append_crcTrailer]

/-! ### The encoder's frame -/

variable {cmd : Half} {opid : Byte} {P : List Byte}

@[simp] theorem frameEncode_length : (frameEncode cmd opid P).length = 10 + P.length := by
  rw [frameEncode, List.length_append, frameBody_length, crcTrailer_length]
  omega

theorem frameEncode_start : byteAt (frameEncode cmd opid P) 0 = 0x55#8 := rfl

theorem frameEncode_required (hP : P.length ≤ 255) : frameRequired (frameEncode cmd opid P) = 8 + P.length := by
  have hlen : frameLen (frameEncode cmd opid P) = BitVec.ofNat 8 P.length := rfl
  rw [frameRequired, headerLength, hlen, BitVec.toNat_ofNat, Nat.mod_eq_of_lt (by omega)]

theorem crc16_frameEncode : crc16 (frameEncode cmd opid P) = 0x0000#16 := crc16_append_crcTrailer _

/-! ### The decoder with the fallback off -/

theorem frameDecode_badStart {fb : Bool} (hheader : 8 ≤ B.length) (hstart : byteAt B 0 ≠ 0x55#8) :
    frameDecode B fb = .reject .badStart := by
  rw [frameDecode, if_neg (by omega), if_pos hstart]

theorem frameDecode_crcMismatch (hstart : byteAt B 0 = 0x55#8) (hlength : frameRequired B + 2 ≤ B.length)
    (hcrc : frameRxCrc B ≠ crc16 (frameSpan B)) : frameDecode B false = .reject .crcMismatch := by
  have hheader : 8 ≤ frameRequired B := Nat.le_add_right ..
  rw [frameDecode, if_neg (by omega), if_neg (not_not.mpr hstart), if_neg (by omega), if_neg (by omega), if_neg hcrc,
    if_neg (by simp)]

end Sys2Proof.Machine

namespace Sys2Proof.Safety

open Sys2Proof.Machine

/-- Settles O29: a changed start byte fails its own test; past it the length still names the same two CRC bytes, and
they cannot match, since the changed frame has not the checksum 0. -/
theorem oneChangedByteIsRejected : Obligations.OneChangedByteIsRejected := by
  intro cmd opid P k b hP hk hk5 hchange
  have hlength : ((frameEncode cmd opid P).set k b).length = 10 + P.length := by
    rw [List.length_set, frameEncode_length]
  have hrequired : frameRequired ((frameEncode cmd opid P).set k b) = 8 + P.length := by
    rw [frameRequired_set hk5, frameEncode_required hP]
  by_cases hk0 : k = 0
  · subst hk0
    have hstart : byteAt ((frameEncode cmd opid P).set 0 b) 0 ≠ 0x55#8 := fun h => hchange (congrArg some h.symm)
    rw [if_pos rfl]
    exact frameDecode_badStart (by omega) hstart
  · have hstart : byteAt ((frameEncode cmd opid P).set k b) 0 = 0x55#8 := by
      rw [byteAt_set_ne hk0, frameEncode_start]
    have hcrc : crc16 ((frameEncode cmd opid P).set k b) ≠ 0x0000#16 := by
      rw [← crc16_frameEncode (cmd := cmd) (opid := opid) (P := P)]
      exact crc16_set_ne (by rw [frameEncode_length]; exact hk) hchange
    rw [if_neg hk0]
    exact frameDecode_crcMismatch hstart (by omega) fun h => hcrc (crc16_eq_zero_of_frameRxCrc_eq (by omega) h)

end Sys2Proof.Safety
end

section
/-! PROOF. The bit-serial engine computes the byte-wise checksum (spec/40_crc.md R93): after `k` internal steps it
stands at byte `k / 8` and bit-step `k % 8`, with the checksum of the whole bytes before and the bit-steps done in the
current one in CRC. -/

namespace Sys2Proof.Machine

/-! ### Inside one byte -/

/-- What CRC holds after some bit-steps of a byte: the byte is XORed in with the first of them. -/
def crcPartial (c : Half) (b : Byte) (i : Nat) : Half := if i = 0 then c else crcBit^[i] (c ^^^ b.setWidth 16)

@[simp] theorem crcPartial_zero (c : Half) (b : Byte) : crcPartial c b 0 = c := rfl

@[simp] theorem crcPartial_eight (c : Half) (b : Byte) : crcPartial c b 8 = crcByte c b := rfl

theorem crcPartial_succ (c : Half) (b : Byte) (i : Nat) :
    crcPartial c b (i + 1) = crcBit (if i = 0 then c ^^^ b.setWidth 16 else crcPartial c b i) := by
  rw [crcPartial, if_neg (by omega), Function.iterate_succ_apply']
  cases i <;> rfl

/-! ### Where the sequencer stands -/

/-- The sequencer before the `k`-th bit-step of a span, counted from 0: idle once the span is done. -/
def Sequencer.after (ph : Phase) (n k : Nat) : Sequencer :=
  if k < 8 * n then { phase := ph, byteIndex := k / 8, bitCount := BitVec.ofNat 3 (k % 8) } else Sequencer.idle

variable {ph : Phase} {n k : Nat}

theorem Sequencer.after_of_lt (h : k < 8 * n) :
    Sequencer.after ph n k = { phase := ph, byteIndex := k / 8, bitCount := BitVec.ofNat 3 (k % 8) } := if_pos h

theorem Sequencer.after_of_le (h : 8 * n ≤ k) : Sequencer.after ph n k = Sequencer.idle := if_neg (by omega)

/-- A 3-bit count of bit-steps loses nothing. -/
theorem Sequencer.bitCount_eq_iff (k i : Nat) (hi : i < 8) : BitVec.ofNat 3 (k % 8) = BitVec.ofNat 3 i ↔ k % 8 = i := by
  rw [← BitVec.toNat_inj, BitVec.toNat_ofNat, BitVec.toNat_ofNat]
  omega

theorem Sequencer.next_after (h : k < 8 * n) : (Sequencer.after ph n k).next n = Sequencer.after ph n (k + 1) := by
  rw [Sequencer.after_of_lt h, Sequencer.next]
  by_cases hlast : k % 8 = 7
  · rw [if_pos ((Sequencer.bitCount_eq_iff k 7 (by omega)).mpr hlast)]
    by_cases hmore : k / 8 + 1 < n
    · rw [if_pos hmore, Sequencer.after_of_lt (by omega), show (k + 1) / 8 = k / 8 + 1 by omega,
        show (k + 1) % 8 = 0 by omega]
    · rw [if_neg hmore, Sequencer.after_of_le (by omega)]
  · rw [if_neg (mt (Sequencer.bitCount_eq_iff k 7 (by omega)).mp hlast), Sequencer.after_of_lt (by omega),
      show (k + 1) / 8 = k / 8 by omega, show (k + 1) % 8 = k % 8 + 1 by omega, BitVec.ofNat_add]

/-! ### The run over a span -/

/-- What CRC holds after `k` bit-steps over a span. -/
def crcSerial (c : Half) (span : List Byte) (k : Nat) : Half :=
  crcPartial (crcFrom c (span.take (k / 8))) (byteAt span (k / 8)) (k % 8)

theorem crcSerial_length (c : Half) (span : List Byte) : crcSerial c span (8 * span.length) = crcFrom c span := by
  rw [crcSerial, Nat.mul_mod_right, crcPartial_zero, Nat.mul_div_cancel_left _ (by omega), List.take_length]

theorem crcFrom_take_succ (c : Half) {span : List Byte} {j : Nat} (h : j < span.length) :
    crcFrom c (span.take (j + 1)) = crcByte (crcFrom c (span.take j)) (byteAt span j) := by
  rw [List.take_add_one, getElem?_eq_byteAt h, crcFrom_append]
  rfl

theorem crcSerial_succ (c : Half) {span : List Byte} (h : k < 8 * span.length) :
    crcSerial c span (k + 1)
      = crcBit (if k % 8 = 0 then crcSerial c span k ^^^ (byteAt span (k / 8)).setWidth 16
          else crcSerial c span k) := by
  have hstep : crcSerial c span (k + 1)
      = crcPartial (crcFrom c (span.take (k / 8))) (byteAt span (k / 8)) (k % 8 + 1) := by
    by_cases hlast : k % 8 = 7
    · rw [crcSerial, show (k + 1) / 8 = k / 8 + 1 by omega, show (k + 1) % 8 = 0 by omega, hlast,
        crcPartial_zero, crcPartial_eight, crcFrom_take_succ c (by omega)]
    · rw [crcSerial, show (k + 1) / 8 = k / 8 by omega, show (k + 1) % 8 = k % 8 + 1 by omega]
  rw [hstep, crcPartial_succ]
  by_cases hfirst : k % 8 = 0
  · rw [if_pos hfirst, if_pos hfirst, crcSerial, hfirst, crcPartial_zero]
  · rw [if_neg hfirst, if_neg hfirst, crcSerial]

/-- The engine after `k` internal steps of a run over a span. -/
def State.serialAfter (s : State) (ph : Phase) (span : List Byte) (k : Nat) : State :=
  (s.setCrc (crcSerial s.crc span k)).setSequencer (Sequencer.after ph span.length k)

theorem State.serialStart_eq_serialAfter (s : State) (ph : Phase) (span : List Byte) :
    s.serialStart ph span = s.serialAfter ph span 0 := by
  cases span with
  | nil => exact s.serialStart_nil ph
  | cons b span =>
    have hbusy : 0 < 8 * (b :: span).length := by simp
    rw [State.serialStart, if_neg (List.cons_ne_nil b span), State.serialAfter, Sequencer.after_of_lt hbusy]
    rfl

/-- A busy engine writes CRC and moves the sequencer (spec/40_crc.md R93). -/
theorem State.serialTick_busy {s : State} {span : List Byte} (h : s.sequencer.phase ≠ .idle) :
    s.serialTick span = (s.setCrc (crcBit (if s.sequencer.bitCount = 0#3
        then s.crc ^^^ (byteAt span s.sequencer.byteIndex).setWidth 16 else s.crc))).setSequencer
      (s.sequencer.next span.length) := if_neg h

theorem State.serialTick_serialAfter (s : State) (hph : ph ≠ .idle) {span : List Byte} (h : k < 8 * span.length) :
    (s.serialAfter ph span k).serialTick span = s.serialAfter ph span (k + 1) := by
  have hq : (s.serialAfter ph span k).sequencer
      = { phase := ph, byteIndex := k / 8, bitCount := BitVec.ofNat 3 (k % 8) } := Sequencer.after_of_lt h
  have hcrc : (s.serialAfter ph span k).crc = crcSerial s.crc span k := rfl
  have hnext : (s.serialAfter ph span k).sequencer.next span.length = Sequencer.after ph span.length (k + 1) :=
    Sequencer.next_after h
  rw [State.serialTick_busy (by rw [hq]; exact hph), hnext, hq, hcrc, State.serialAfter, State.serialAfter,
    crcSerial_succ s.crc h]
  simp only [Sequencer.bitCount_eq_iff k 0 (by omega)]
  rfl

/-- Before the span is done the run stands at its `k`-th bit-step; with `k` eight per byte it is done. -/
theorem State.serialRun_serialStart (s : State) (hph : ph ≠ .idle) (span : List Byte) (hk : k ≤ 8 * span.length) :
    (s.serialStart ph span).serialRun span k = s.serialAfter ph span k := by
  induction k with
  | zero => exact s.serialStart_eq_serialAfter ph span
  | succ k ih =>
    rw [State.serialRun_add, ih (by omega)]
    exact s.serialTick_serialAfter hph hk

end Sys2Proof.Machine

namespace Sys2Proof.Safety

open Sys2Proof.Machine

/-- Settles O11, by induction on the internal steps. -/
theorem serialEngineRefinesByteSteps : Obligations.SerialEngineRefinesByteSteps := by
  intro s ph span hph
  refine ⟨?_, fun k hk => ?_⟩
  · rw [s.serialRun_serialStart hph span le_rfl, State.serialAfter, crcSerial_length, Sequencer.after_of_le le_rfl]
    rfl
  · rw [s.serialRun_serialStart hph span hk.le]
    exact Sequencer.after_of_lt hk

end Sys2Proof.Safety
end

section
/-! PROOF. The encoder's frame byte by byte (spec/41_frame_encode.md R110, R112, R116), and the decoder's fields read
back from it (R115). -/

namespace Sys2Proof.Machine

variable {cmd : Half} {opid : Byte} {P : List Byte}

/-! ### The encoder's bytes -/

theorem frameEncode_take_header : (frameEncode cmd opid P).take 8 = frameHeader cmd opid (BitVec.ofNat 8 P.length) :=
  rfl

theorem frameEncode_drop_header : (frameEncode cmd opid P).drop 8 = P ++ crcTrailer (crc16 (frameBody cmd opid P)) :=
  rfl

theorem frameEncode_take_body : (frameEncode cmd opid P).take (8 + P.length) = frameBody cmd opid P :=
  List.take_left' (frameBody_length ..)

/-- Past the header lie the payload and the CRC. -/
theorem frameEncode_getElem?_add (k : Nat) :
    (frameEncode cmd opid P)[8 + k]? = (P ++ crcTrailer (crc16 (frameBody cmd opid P)))[k]? := by
  rw [← List.getElem?_drop, frameEncode_drop_header]

theorem frameEncode_getElem?_payload {k : Nat} (hk : k < P.length) : (frameEncode cmd opid P)[8 + k]? = P[k]? := by
  rw [frameEncode_getElem?_add, List.getElem?_append_left hk]

theorem frameEncode_getElem?_crcLow :
    (frameEncode cmd opid P)[8 + P.length]? = some (lowByte (crc16 (frameBody cmd opid P))) := by
  rw [frameEncode_getElem?_add, List.getElem?_append_right le_rfl, Nat.sub_self]
  rfl

theorem frameEncode_getElem?_crcHigh :
    (frameEncode cmd opid P)[9 + P.length]? = some (highByte (crc16 (frameBody cmd opid P))) := by
  rw [show 9 + P.length = 8 + (P.length + 1) by omega, frameEncode_getElem?_add,
    List.getElem?_append_right (by omega), Nat.add_sub_cancel_left]
  rfl

/-! ### The decoder's fields of an encoded frame -/

theorem frameEncode_command : frameCommand (frameEncode cmd opid P) = cmd := joinBytes_lowByte_highByte cmd

theorem frameEncode_opid : frameOpid (frameEncode cmd opid P) = opid := rfl

theorem frameEncode_span (hP : P.length ≤ 255) : frameSpan (frameEncode cmd opid P) = frameBody cmd opid P := by
  rw [frameSpan, frameEncode_required hP, frameEncode_take_body]

theorem frameEncode_payload (hP : P.length ≤ 255) : framePayload (frameEncode cmd opid P) = P := by
  rw [framePayload, frameEncode_span hP, frameBody]
  exact List.drop_left' (frameHeader_length ..)

theorem frameEncode_rxCrc (hP : P.length ≤ 255) :
    frameRxCrc (frameEncode cmd opid P) = crc16 (frameBody cmd opid P) := by
  have hlow : byteAt (frameEncode cmd opid P) (8 + P.length) = lowByte (crc16 (frameBody cmd opid P)) := by
    rw [byteAt, List.getD_eq_getElem?_getD, frameEncode_getElem?_crcLow, Option.getD_some]
  have hhigh : byteAt (frameEncode cmd opid P) (9 + P.length) = highByte (crc16 (frameBody cmd opid P)) := by
    rw [byteAt, List.getD_eq_getElem?_getD, frameEncode_getElem?_crcHigh, Option.getD_some]
  rw [frameRxCrc, frameEncode_required hP, hlow, show 8 + P.length + 1 = 9 + P.length by omega, hhigh,
    joinBytes_lowByte_highByte]

/-- The full-span CRC that the decoder computes is the one the encoder appended, so its first comparison matches and
the fallback flag is not reached. -/
theorem frameDecode_frameEncode (hP : P.length ≤ 255) (fb : Bool) :
    frameDecode (frameEncode cmd opid P) fb = .accept cmd opid P true false := by
  have hlength : (frameEncode cmd opid P).length = frameRequired (frameEncode cmd opid P) + 2 := by
    rw [frameEncode_length, frameEncode_required hP]
    omega
  have hcrc : frameRxCrc (frameEncode cmd opid P) = crc16 (frameSpan (frameEncode cmd opid P)) := by
    rw [frameEncode_rxCrc hP, frameEncode_span hP]
  have hheader : 8 ≤ (frameEncode cmd opid P).length := by
    rw [frameEncode_length]
    omega
  rw [frameDecode, if_neg (by omega), if_neg (not_not.mpr frameEncode_start), if_neg (by omega), if_neg (by omega),
    if_pos hcrc, acceptFrame, frameEncode_command, frameEncode_opid, frameEncode_payload hP]

end Sys2Proof.Machine

namespace Sys2Proof.Safety

open Sys2Proof.Machine

/-- Settles O16: the header, the payload after it, and the CRC of both. -/
theorem encodedFrameLayout : Obligations.EncodedFrameLayout := by
  intro cmd opid P hP
  have hlen : (BitVec.ofNat 8 P.length).toNat = P.length := by
    rw [BitVec.toNat_ofNat]
    exact Nat.mod_eq_of_lt (by omega)
  rw [frameEncode_take_body]
  exact ⟨frameEncode_length, by omega, frameEncode_take_header, hlen, fun k => frameEncode_getElem?_payload,
    frameEncode_getElem?_crcLow, frameEncode_getElem?_crcHigh⟩

/-- Settles O17: the eight header bytes are those of the source's CRC example, 0xDFAC. -/
theorem encodeExampleOfTheSource : Obligations.EncodeExampleOfTheSource := by
  have hbody : frameBody 0xC007#16 0x01#8 []
      = [0x55#8, 0x60#8, 0x01#8, 0x07#8, 0xC0#8, 0x00#8, 0x00#8, 0x01#8] := by decide
  rw [Obligations.EncodeExampleOfTheSource, frameEncode, hbody, crc16_sourceHeader]
  decide

end Sys2Proof.Safety
end

section
/-! PROOF. FRM.ENC (spec/41_frame_encode.md R111, R113): what it leaves in TXBUF, TX_COUNT, CRC and STATUS, and that it
leaves the rest. -/

namespace Sys2Proof.Machine

variable {s t : State}

/-! ### The bytes it stores -/

theorem State.requestPayload_length_le (s : State) : s.requestPayload.length ≤ 255 :=
  of_decide_eq_true (Safety.request_wellFormed s)

theorem State.requestFrame_fits (s : State) : s.requestFrame.length ≤ spaceSize s.config .txBuf := by
  have hlen := s.requestPayload_length_le
  rw [State.requestPayload_length] at hlen
  show _ ≤ 265
  rw [State.requestFrame_length]
  omega

theorem State.take_firstBytes {m n : Nat} (h : m ≤ n) (s : State) (S : Space) :
    (s.firstBytes S n).take m = s.firstBytes S m := by
  rw [State.firstBytes, ← List.map_take, List.take_range, min_eq_left h, State.firstBytes]

/-! ### The state it leaves -/

theorem execFrmEnc_txCount (h : exec .frmEnc s = .next t) : t.txCount.toNat = 10 + s.reqLen.toNat := by
  have hlen : s.reqLen.toNat < 2 ^ 8 := s.reqLen.isLt
  rw [execFrmEnc_next h, State.setStatus_txCount, State.setCrc_txCount, State.setTxCount_txCount, BitVec.toNat_ofNat]
  exact Nat.mod_eq_of_lt (by omega)

theorem execFrmEnc_readByte (h : exec .frmEnc s = .next t) (S : Space) (a : Nat) :
    t.readByte S a = (s.storeBytes .txBuf s.requestFrame).readByte S a := by
  rw [execFrmEnc_next h, State.setStatus_readByte, State.setCrc_readByte, State.setTxCount_readByte]

theorem execFrmEnc_txBuf (h : exec .frmEnc s = .next t) :
    t.firstBytes .txBuf (10 + s.reqLen.toNat) = s.requestFrame := by
  rw [State.firstBytes_congr fun a _ => execFrmEnc_readByte h .txBuf a, ← State.requestFrame_length]
  exact s.firstBytes_storeBytes s.requestFrame_fits

theorem execFrmEnc_txBuf_body (h : exec .frmEnc s = .next t) :
    t.firstBytes .txBuf (8 + s.reqLen.toNat) = s.requestBody := by
  rw [← State.take_firstBytes (show 8 + s.reqLen.toNat ≤ 10 + s.reqLen.toNat by omega), execFrmEnc_txBuf h,
    ← State.requestPayload_length]
  exact frameEncode_take_body

theorem execFrmEnc_crc (h : exec .frmEnc s = .next t) : t.crc = crc16 s.requestBody := by
  rw [execFrmEnc_next h, State.setStatus_crc, State.setCrc_crc]

theorem execFrmEnc_status (h : exec .frmEnc s = .next t) : t.status = statusSuccess s.status := by
  rw [execFrmEnc_next h, State.setStatus_status]

/-- The frame's bytes are the bytes of TXBUF. -/
theorem execFrmEnc_getElem? (h : exec .frmEnc s = .next t) {a : Nat} (ha : a < 10 + s.reqLen.toNat) :
    s.requestFrame[a]? = some (t.readByte .txBuf a) := by
  rw [← execFrmEnc_txBuf h, State.firstBytes_getElem?, if_pos ha]

/-- The two bytes that end the frame are the CRC register's, the low byte first (spec/41_frame_encode.md R112). -/
theorem execFrmEnc_txBuf_crc (h : exec .frmEnc s = .next t) :
    t.readByte .txBuf (9 + s.reqLen.toNat) ++ t.readByte .txBuf (8 + s.reqLen.toNat) = crc16 s.requestBody := by
  have hlow : t.readByte .txBuf (8 + s.reqLen.toNat) = lowByte (crc16 s.requestBody) := by
    refine Option.some_injective _ ((execFrmEnc_getElem? h (by omega)).symm.trans ?_)
    rw [← State.requestPayload_length]
    exact frameEncode_getElem?_crcLow
  have hhigh : t.readByte .txBuf (9 + s.reqLen.toNat) = highByte (crc16 s.requestBody) := by
    refine Option.some_injective _ ((execFrmEnc_getElem? h (by omega)).symm.trans ?_)
    rw [← State.requestPayload_length]
    exact frameEncode_getElem?_crcHigh
  rw [hlow, hhigh, ← joinBytes_eq_append, joinBytes_lowByte_highByte]

end Sys2Proof.Machine

namespace Sys2Proof.Safety

open Sys2Proof.Machine

variable {s t : State}

theorem execFrmEnc_sameBytesBut (h : exec .frmEnc s = .next t) : SameBytesBut .txBuf (10 + s.reqLen.toNat) s t := by
  intro T a ha
  rw [execFrmEnc_readByte h, State.readByte_storeBytes, State.requestFrame_length, if_neg (by tauto)]

theorem execFrmEnc_reports (h : exec .frmEnc s = .next t) : Reports true 0#4 s t where
  ok := by rw [execFrmEnc_status h]; exact statusOk_statusWithOutcome ..
  err := by rw [execFrmEnc_status h]; exact statusErr_statusWithOutcome ..
  bits := exec_sameDecodeBits h (by simp) (by simp)

theorem execFrmEnc_sameSurroundings (h : exec .frmEnc s = .next t) : SameSurroundings s t := by
  rw [execFrmEnc_next h]
  constructor <;> simp

/-- Settles O18: the frame, its length and its CRC are stored, nothing else but the outcome is written. -/
theorem frmEncBuildsTheFrame : Obligations.FrmEncBuildsTheFrame := by
  refine ⟨fun s => ?_, rfl⟩
  obtain ⟨t, h⟩ := exec_goesOn .frmEnc s
  exact ⟨t, h, execFrmEnc_txCount h, execFrmEnc_txBuf h, execFrmEnc_sameBytesBut h,
    by rw [execFrmEnc_crc h, execFrmEnc_txBuf_body h], by rw [execFrmEnc_crc h, execFrmEnc_txBuf_crc h],
    execFrmEnc_reports h, execFrmEnc_sameSurroundings h, exec_hostRegisters_kept h (by simp),
    exec_response_kept h (by simp) (by simp)⟩

end Sys2Proof.Safety
end

section
/-! PROOF. The host's script, run step by step: the moves it puts before the pending ones leave what their actions
leave, one after the other (spec/30_encoding.md R84); `loopback` copies TXBUF to RXBUF (R85). -/

namespace Sys2Proof.Machine

variable {s t u : State}

/-! ### Issuing a command by its mnemonic -/

theorem decodeCommand_encodeCommand (i : Instr) : decodeCommand (encodeCommand i) = .ok i := by
  rw [decodeCommand, encodeCommand, BitVec.setWidth_setWidth_of_le _ (by decide), BitVec.setWidth_eq, decode_encode]

theorem serveAction_scriptCommand (i : Instr) (s : State) : serveAction (scriptCommand i) s = exec i s :=
  issueCommand_of_ok (decodeCommand_encodeCommand i) s

/-! ### The pending moves are not read -/

theorem State.finishDecode_withScript (s : State) (r : DecodeResult) (rest : List HostAction) :
    (s.withScript rest).finishDecode r = (s.finishDecode r).withScript rest := by
  cases r with
  | accept cmd opid P present domain => rfl
  | reject e => rfl

theorem exec_withScript {i : Instr} (h : exec i s = .next t) (rest : List HostAction) :
    exec i (s.withScript rest) = .next (t.withScript rest) := by
  cases i with
  | crcCalc =>
    rcases execCrcCalc_next h with ⟨hb, rfl⟩ | ⟨hb, rfl⟩
    · exact execCrcCalc_of_badCount hb
    · exact execCrcCalc_of_not_badCount hb
  | frmDec =>
    rcases execFrmDec_next h with ⟨hb, rfl⟩ | ⟨hb, rfl⟩
    · exact execFrmDec_of_badCount hb
    · exact (execFrmDec_of_not_badCount (s := s.withScript rest) hb).trans
        (congrArg _ (State.finishDecode_withScript (s.setCrc ((lastCrc s.received s.fallbackEn).getD s.crc))
          (frameDecode s.received s.fallbackEn) rest))
  | frmEnc =>
    obtain ⟨F, c, hrun⟩ := execFrmEnc_of_request s
    rw [hrun s rfl] at h
    cases h
    exact hrun (s.withScript rest) rfl
  | _ => cases h; rfl

theorem issueCommand_withScript {w : Word32} (h : issueCommand w s = .next t) (rest : List HostAction) :
    issueCommand w (s.withScript rest) = .next (t.withScript rest) := by
  cases hw : decodeCommand w with
  | ok i =>
    rw [issueCommand_of_ok hw] at h ⊢
    exact exec_withScript h rest
  | error e =>
    rw [issueCommand_of_error hw] at h ⊢
    cases h
    rfl

theorem State.writeReg_withScript (s : State) (n : Nat) (v : Word32) (rest : List HostAction) :
    (s.withScript rest).writeReg n v = (s.writeReg n v).withScript rest := by
  unfold State.writeReg
  split
  case h_1 r _ => cases r <;> rfl
  case h_2 => rfl

theorem State.hostWriteByte_withScript (s : State) (S : Space) (a : Nat) (b : Byte) (rest : List HostAction) :
    (s.withScript rest).hostWriteByte S a b = (s.hostWriteByte S a b).withScript rest := by
  unfold State.hostWriteByte State.writeByte
  show (if _ then if a < spaceSize s.config S then _ else _ else _) = _
  split_ifs
  · cases S <;> rfl
  · rfl
  · rfl

theorem State.readByte_withScript (s : State) (S : Space) (a : Nat) (rest : List HostAction) :
    (s.withScript rest).readByte S a = s.readByte S a :=
  State.readByte_congr rfl rfl (by cases S <;> rfl) a

theorem serveAction_withScript {m : HostAction} (h : serveAction m s = .next t) (rest : List HostAction) :
    serveAction m (s.withScript rest) = .next (t.withScript rest) := by
  cases m with
  | readReg n =>
    cases h
    rfl
  | writeReg n v =>
    cases n with
    | zero => exact issueCommand_withScript h rest
    | succ n => cases h; exact congrArg _ (s.writeReg_withScript (n + 1) v rest)
  | issue w => exact issueCommand_withScript h rest
  | readBuf S a =>
    cases h
    rw [← s.readByte_withScript S a rest]
    rfl
  | writeBuf S a b => cases h; exact congrArg _ (s.hostWriteByte_withScript S a b rest)
  | hardReset => cases h; rfl

/-! ### Running a script -/

/-- The script's moves take the block from one state to another, whatever script is to follow it. -/
def Plays (script : List HostAction) (s t : State) : Prop :=
  ∀ rest, Sys2Proof.core.run script.length (s.withScript (script ++ rest)) = .next (t.withScript rest)

theorem run_succ_of_next {M : Host.Core} {s t : M.State} (h : M.step s = .next t) (k : Nat) :
    M.run (k + 1) s = M.run k t := by
  simp only [Host.Core.run, h]

/-- Steps that go on are followed by the steps after them. -/
theorem run_add_of_next {M : Host.Core} {j : Nat} {s t : M.State} (h : M.run j s = .next t) (k : Nat) :
    M.run (j + k) s = M.run k t := by
  induction j generalizing s with
  | zero => cases h; rw [Nat.zero_add]
  | succ j ih =>
    rw [Nat.add_right_comm]
    simp only [Host.Core.run] at h ⊢
    cases hstep : M.step s with
    | next s' => rw [hstep] at h; exact ih h
    | fault r => rw [hstep] at h; cases h
    | refused r => rw [hstep] at h; cases h

theorem Plays.nil (s : State) : Plays [] s s := fun _ => rfl

/-- A move is served after the reply to the one before is cleared (log 4). -/
theorem Plays.cons {m : HostAction} {script : List HostAction} (hm : serveAction m (s.setReply .none) = .next t)
    (h : Plays script t u) : Plays (m :: script) s u := by
  intro rest
  have hstep : Sys2Proof.core.step (s.withScript (m :: (script ++ rest))) = .next (t.withScript (script ++ rest)) :=
    (step_of_action (s := s.withScript (m :: (script ++ rest))) rfl).trans (serveAction_withScript hm (script ++ rest))
  rw [List.cons_append, List.length_cons]
  exact (run_succ_of_next hstep script.length).trans (h rest)

theorem Plays.append {first second : List HostAction} (h₁ : Plays first s t) (h₂ : Plays second t u) :
    Plays (first ++ second) s u := by
  intro rest
  rw [List.length_append, List.append_assoc, run_add_of_next (h₁ (second ++ rest))]
  exact h₂ rest

theorem Plays.run {script : List HostAction} (h : Plays script s t) :
    Sys2Proof.core.run script.length (s.withScript script) = .next t := by
  have hrun := h []
  rwa [List.append_nil] at hrun

/-! ### The loopback -/

theorem State.hostWriteByte_rxBuf {a : Nat} (ha : a < s.config.rxCapacity) (b : Byte) :
    s.hostWriteByte .rxBuf a b = s.setSpace .rxBuf (s.rxBuf.put a b) := if_pos ha

/-- The copied bytes stand in RXBUF; beside them only the last reply has changed. -/
theorem plays_scriptCopyFrom (bs : List Byte) (s : State) (a : Nat) (hfits : a + bs.length ≤ s.config.rxCapacity) :
    ∃ r, Plays (scriptCopyFrom a bs) s ((s.setSpace .rxBuf (s.rxBuf.putAll a bs)).setReply r) := by
  induction bs generalizing s a with
  | nil => exact ⟨s.reply, Plays.nil s⟩
  | cons b bs ih =>
    rw [List.length_cons] at hfits
    have hwrite : serveAction (scriptWb .rxBuf a b) (s.setReply .none)
        = .next ((s.setReply .none).setSpace .rxBuf (s.rxBuf.put a b)) :=
      congrArg _ (State.hostWriteByte_rxBuf (s := s.setReply .none) (show a < s.config.rxCapacity by omega) b)
    obtain ⟨r, hrest⟩ := ih ((s.setReply .none).setSpace .rxBuf (s.rxBuf.put a b)) (a + 1)
      (show a + 1 + bs.length ≤ s.config.rxCapacity by omega)
    exact ⟨r, Plays.cons rfl (Plays.cons hwrite hrest)⟩

/-- What `loopback` leaves: the bytes of TXBUF in RXBUF, TX_COUNT in RX_COUNT. -/
def State.loopedBack (s : State) : State :=
  ((s.storeBytes .rxBuf (s.firstBytes .txBuf s.txCount.toNat)).writeRegValue .rxCount (s.regValue .txCount)).setReply
    .none

theorem plays_scriptLoopback (hfits : s.txCount.toNat ≤ s.config.rxCapacity) :
    Plays (scriptLoopback s) s s.loopedBack := by
  obtain ⟨r, hcopy⟩ := plays_scriptCopyFrom (s.firstBytes .txBuf s.txCount.toNat) s 0
    (by rw [State.firstBytes_length]; omega)
  exact hcopy.append (Plays.cons rfl (Plays.cons rfl (Plays.nil _)))

theorem State.loopedBack_rxCount (s : State) : s.loopedBack.rxCount.toNat = s.txCount.toNat := by
  have hcount : s.txCount.toNat < 2 ^ 9 := s.txCount.isLt
  show ((s.txCount.setWidth 32).setWidth 16).toNat = _
  rw [BitVec.toNat_setWidth, BitVec.toNat_setWidth]
  omega

theorem State.loopedBack_badCount (hfits : s.txCount.toNat ≤ s.config.rxCapacity) :
    s.loopedBack.badCount = false := by
  rw [State.badCount_eq_false_iff, State.loopedBack_rxCount]
  exact hfits

theorem State.loopedBack_received (hfits : s.txCount.toNat ≤ s.config.rxCapacity) :
    s.loopedBack.received = s.firstBytes .txBuf s.txCount.toNat := by
  have hlength : (s.firstBytes .txBuf s.txCount.toNat).length ≤ spaceSize s.config .rxBuf := by
    rw [State.firstBytes_length]
    exact hfits
  calc s.loopedBack.received
      = (s.storeBytes .rxBuf (s.firstBytes .txBuf s.txCount.toNat)).firstBytes .rxBuf s.txCount.toNat := by
        rw [State.received, State.loopedBack_rxCount]
        exact State.firstBytes_congr fun a _ => by
          rw [State.loopedBack, State.setReply_readByte, State.writeRegValue_readByte]
    _ = s.firstBytes .txBuf s.txCount.toNat := by
        simpa using s.firstBytes_storeBytes hlength

end Sys2Proof.Machine
end

section
/-! PROOF. The round trip of a Request through the commands (spec/41_frame_encode.md R115). -/

namespace Sys2Proof.Machine

variable {s : State}

theorem statusAccept_fullSpan : statusAccept true false = 0x07#8 := by decide

/-- FRM.DEC of an encoded frame accepts: CRC present and of the full span (spec/42_frame_decode.md R130, R133). -/
theorem execFrmDec_of_frame {cmd : Half} {opid : Byte} {P : List Byte} (hcount : s.badCount = false)
    (hframe : s.received = frameEncode cmd opid P) (hP : P.length ≤ 255) :
    ∃ u, exec .frmDec s = .next u ∧ u.rspCmd = cmd ∧ u.rspOpid = opid ∧ u.rspLen = BitVec.ofNat 8 P.length
      ∧ u.firstBytes .rspPayload P.length = P ∧ u.status = 0x07#8 ∧ u.pending = s.pending := by
  have hrun := execFrmDec_of_not_badCount hcount
  rw [hframe, frameDecode_frameEncode hP, State.finishDecode_accept, State.commitResponse_eq] at hrun
  refine ⟨_, hrun, rfl, rfl, rfl, ?_, statusAccept_fullSpan, ?_⟩
  · exact (State.firstBytes_congr fun a _ => by rw [State.setStatus_readByte, State.setRsp_readByte]).trans
      (State.firstBytes_storeBytes _ hP)
  · rw [State.setStatus_pending, State.setRsp_pending, State.storeBytes_pending, State.setCrc_pending]

end Sys2Proof.Machine

namespace Sys2Proof.Safety

open Sys2Proof.Machine

/-- The smallest RXBUF holds the longest frame, 265 bytes (spec/00_scope.md R6). -/
theorem execFrmEnc_fits {s t : State} (hs : s.config.legal) (h : exec .frmEnc s = .next t) :
    t.txCount.toNat ≤ t.config.rxCapacity := by
  obtain ⟨hlow, -⟩ := hs
  have hlen : s.reqLen.toNat < 2 ^ 8 := s.reqLen.isLt
  rw [execFrmEnc_txCount h, (execFrmEnc_sameSurroundings h).config]
  omega

/-- Settles O28: the decoder undoes the encoder, and the loopback brings FRM.ENC's frame to FRM.DEC unchanged. -/
theorem encodeDecodeRoundTrip : Obligations.EncodeDecodeRoundTrip := by
  refine ⟨fun cmd opid P fb hP => frameDecode_frameEncode hP fb, fun s hs => ?_⟩
  obtain ⟨t, henc⟩ := exec_goesOn .frmEnc s
  have hcount : t.txCount.toNat = 10 + s.reqLen.toNat := execFrmEnc_txCount henc
  have hpending : t.pending = s.pending := (execFrmEnc_sameSurroundings henc).pending
  have hfits : t.txCount.toNat ≤ t.config.rxCapacity := execFrmEnc_fits hs henc
  have hreceived : t.loopedBack.received = s.requestFrame := by
    rw [State.loopedBack_received hfits, hcount, execFrmEnc_txBuf henc]
  obtain ⟨u, hdec, hcmd, hopid, hrspLen, hpayload, hstatus, hrest⟩ :=
    execFrmDec_of_frame (State.loopedBack_badCount hfits) hreceived s.requestPayload_length_le
  have hissue : serveAction (scriptCommand .frmDec) (t.loopedBack.setReply .none) = .next u :=
    (serveAction_scriptCommand .frmDec _).trans hdec
  have hrun := ((plays_scriptLoopback hfits).append (Plays.cons hissue (Plays.nil u))).run
  rw [State.requestPayload_length] at hrspLen hpayload
  refine ⟨t, u, henc, ?_, hcmd, hopid, ?_, hpayload, hstatus, ?_⟩
  · rwa [List.length_append] at hrun
  · simpa using hrspLen
  · exact hrest.trans hpending

end Sys2Proof.Safety
end

section
/-! PROOF. What the pure decoder does with a sequence and with bytes after it (spec/42_frame_decode.md R120, R125 to
R127): the fallback flag is read behind the full-span comparison only, and no byte after the CRC is read. -/

namespace Sys2Proof.Machine

variable {B : List Byte} {fb : Bool} {c : Half}

/-! ### The tests after the length -/

/-- A sequence that holds header and payload holds the header. -/
theorem headerLength_le_frameRequired (B : List Byte) : 8 ≤ frameRequired B := Nat.le_add_right ..

theorem frameDecode_noCrc (hstart : byteAt B 0 = 0x55#8) (hrequired : frameRequired B ≤ B.length)
    (hshort : B.length < frameRequired B + 2) : frameDecode B fb = acceptFrame B false false := by
  have hheader := headerLength_le_frameRequired B
  rw [frameDecode, if_neg (by omega), if_neg (not_not.mpr hstart), if_neg (by omega), if_pos hshort]

/-- With a CRC present the two comparisons decide (spec/42_frame_decode.md R126, R127). -/
theorem frameDecode_crcPresent (hstart : byteAt B 0 = 0x55#8) (hlength : frameRequired B + 2 ≤ B.length) :
    frameDecode B fb =
      if frameRxCrc B = crc16 (frameSpan B) then acceptFrame B true false
      else if fb ∧ frameRxCrc B = crc16 (framePayload B) then acceptFrame B true true
      else .reject .crcMismatch := by
  have hheader := headerLength_le_frameRequired B
  rw [frameDecode, if_neg (by omega), if_neg (not_not.mpr hstart), if_neg (by omega), if_neg (by omega)]

theorem frameDecode_accepts_iff (hstart : byteAt B 0 = 0x55#8) (hlength : frameRequired B + 2 ≤ B.length) :
    (∃ cmd opid P d, frameDecode B fb = .accept cmd opid P true d) ↔
      frameRxCrc B = crc16 (frameSpan B) ∨ (fb = true ∧ frameRxCrc B = crc16 (framePayload B)) := by
  rw [frameDecode_crcPresent hstart hlength]
  split_ifs with hfull hpayload
  · exact iff_of_true ⟨_, _, _, _, rfl⟩ (.inl hfull)
  · exact iff_of_true ⟨_, _, _, _, rfl⟩ (.inr hpayload)
  · exact iff_of_false nofun (not_or.mpr ⟨hfull, hpayload⟩)

/-- The flag is read only where the full-span CRC does not match, and then "off" rejects. -/
theorem frameDecode_fallback_cases (B : List Byte) :
    frameDecode B false = .reject .crcMismatch ∨ frameDecode B true = frameDecode B false := by
  have hoff : ¬ (false = true ∧ frameRxCrc B = crc16 (framePayload B)) := by simp
  unfold frameDecode
  rw [if_neg hoff]
  split_ifs
  iterate 5 exact .inr rfl
  · exact .inl rfl
  · exact .inl rfl

/-- The report of an accepted sequence's CRC: two bytes more than header and payload are there (R125). -/
theorem frameDecode_present_iff {cmd : Half} {opid : Byte} {P : List Byte} {p d : Bool}
    (h : frameDecode B fb = .accept cmd opid P p d) : p = true ↔ frameRequired B + 2 ≤ B.length := by
  unfold frameDecode acceptFrame at h
  split_ifs at h with _ _ _ hshort
  · cases h; exact iff_of_false (by simp) (by omega)
  all_goals cases h; exact iff_of_true rfl (by omega)

/-! ### Bytes after the ones read -/

theorem byteAt_append {k : Nat} (h : k < B.length) (X : List Byte) : byteAt (B ++ X) k = byteAt B k :=
  List.getD_append _ _ _ _ h

theorem frameRequired_append (h : 8 ≤ B.length) (X : List Byte) : frameRequired (B ++ X) = frameRequired B := by
  rw [frameRequired, frameLen, byteAt_append (by omega), frameRequired, frameLen]

theorem frameSpan_append (h : frameRequired B ≤ B.length) (X : List Byte) : frameSpan (B ++ X) = frameSpan B := by
  have hheader := headerLength_le_frameRequired B
  rw [frameSpan, frameRequired_append (by omega), List.take_append_of_le_length h, frameSpan]

theorem framePayload_append (h : frameRequired B ≤ B.length) (X : List Byte) :
    framePayload (B ++ X) = framePayload B := by
  rw [framePayload, frameSpan_append h, framePayload]

theorem acceptFrame_append (h : frameRequired B ≤ B.length) (X : List Byte) (p d : Bool) :
    acceptFrame (B ++ X) p d = acceptFrame B p d := by
  have hheader := headerLength_le_frameRequired B
  have hcmd : frameCommand (B ++ X) = frameCommand B := by
    rw [frameCommand, byteAt_append (by omega), byteAt_append (by omega), frameCommand]
  have hopid : frameOpid (B ++ X) = frameOpid B := byteAt_append (by omega) X
  rw [acceptFrame, hcmd, hopid, framePayload_append h, acceptFrame]

theorem frameRxCrc_append (h : frameRequired B + 2 ≤ B.length) (X : List Byte) :
    frameRxCrc (B ++ X) = frameRxCrc B := by
  have hheader := headerLength_le_frameRequired B
  rw [frameRxCrc, frameRequired_append (by omega), byteAt_append (by omega), byteAt_append (by omega), frameRxCrc]

/-- Bytes after the CRC are not read. -/
theorem frameDecode_append (h : frameRequired B + 2 ≤ B.length) (X : List Byte) :
    frameDecode (B ++ X) fb = frameDecode B fb := by
  have hheader := headerLength_le_frameRequired B
  have hlonger : B.length ≤ (B ++ X).length := by rw [List.length_append]; omega
  have hrequired : frameRequired (B ++ X) = frameRequired B := frameRequired_append (by omega) X
  have hstartX : byteAt (B ++ X) 0 = byteAt B 0 := byteAt_append (by omega) X
  by_cases hstart : byteAt B 0 = 0x55#8
  · rw [frameDecode_crcPresent (hstartX.trans hstart) (by omega), frameDecode_crcPresent hstart h,
      frameRxCrc_append h, frameSpan_append (by omega), framePayload_append (by omega), acceptFrame_append (by omega),
      acceptFrame_append (by omega)]
  · rw [frameDecode_badStart (by omega) (hstartX ▸ hstart), frameDecode_badStart (by omega) hstart]

/-- One byte after the payload is no CRC. -/
theorem frameDecode_append_one (h : B.length = frameRequired B) (x : Byte) :
    frameDecode (B ++ [x]) fb = frameDecode B fb := by
  have hheader := headerLength_le_frameRequired B
  have hlength : (B ++ [x]).length = B.length + 1 := List.length_append
  have hrequired : frameRequired (B ++ [x]) = frameRequired B := frameRequired_append (by omega) [x]
  have hstartx : byteAt (B ++ [x]) 0 = byteAt B 0 := byteAt_append (by omega) [x]
  by_cases hstart : byteAt B 0 = 0x55#8
  · rw [frameDecode_noCrc (hstartx.trans hstart) (by omega) (by omega),
      frameDecode_noCrc hstart (by omega) (by omega), acceptFrame_append (by omega)]
  · rw [frameDecode_badStart (by omega) (hstartx ▸ hstart), frameDecode_badStart (by omega) hstart]

/-! ### Header and payload followed by a CRC -/

theorem frameSpan_of_length (h : B.length = frameRequired B) : frameSpan B = B :=
  List.take_of_length_le h.le

theorem frameRxCrc_append_crcTrailer (h : B.length = frameRequired B) (c : Half) :
    frameRxCrc (B ++ crcTrailer c) = c := by
  have hheader := headerLength_le_frameRequired B
  have hlow : byteAt (B ++ crcTrailer c) B.length = lowByte c := by
    rw [byteAt, List.getD_append_right _ _ _ _ le_rfl, Nat.sub_self]
    rfl
  have hhigh : byteAt (B ++ crcTrailer c) (B.length + 1) = highByte c := by
    rw [byteAt, List.getD_append_right _ _ _ _ (Nat.le_add_right ..), Nat.add_sub_cancel_left]
    rfl
  rw [frameRxCrc, frameRequired_append (by omega), ← h, hlow, hhigh, joinBytes_lowByte_highByte]

/-- The trailing values that are accepted after header and payload (spec/42_frame_decode.md R126, R127). -/
theorem frameDecode_append_crcTrailer_accepts_iff (hstart : byteAt B 0 = 0x55#8) (h : B.length = frameRequired B) :
    (∃ cmd opid P d, frameDecode (B ++ crcTrailer c) fb = .accept cmd opid P true d) ↔
      c = crc16 B ∨ (fb = true ∧ c = crc16 (B.drop 8)) := by
  have hheader := headerLength_le_frameRequired B
  have hlength : frameRequired (B ++ crcTrailer c) + 2 ≤ (B ++ crcTrailer c).length := by
    rw [frameRequired_append (by omega), List.length_append, crcTrailer_length]
    omega
  rw [frameDecode_accepts_iff ((byteAt_append (by omega) _).trans hstart) hlength, frameRxCrc_append_crcTrailer h,
    framePayload, frameSpan_append h.ge, frameSpan_of_length h, headerLength]

end Sys2Proof.Machine

namespace Sys2Proof.Safety

open Sys2Proof.Machine

/-- `required` in the words of the statements. -/
theorem frameRequired_eq_getD (B : List Byte) : frameRequired B = 8 + (B.getD 5 0#8).toNat := rfl

theorem byteAt_of_getElem? {B : List Byte} {k : Nat} {b : Byte} (h : B[k]? = some b) : byteAt B k = b := by
  rw [byteAt, List.getD_eq_getElem?_getD, h, Option.getD_some]

/-- Settles O30: with header, payload and two bytes there, only the two comparisons are left; over no payload the second
one compares with the seed. -/
theorem acceptableTrailingCrcs : Obligations.AcceptableTrailingCrcs := by
  refine ⟨fun B c fb hstart _ hlength =>
    frameDecode_append_crcTrailer_accepts_iff (byteAt_of_getElem? hstart) hlength, fun B hB hstart hlen => ?_⟩
  have hrequired : B.length = frameRequired B := by
    rw [frameRequired, frameLen, byteAt_of_getElem? hlen]
    exact hB
  have hempty : B.drop 8 = [] := List.drop_eq_nil_of_le hB.le
  have hseed : crc16 (B.drop 8) = 0xFFFF#16 := by rw [hempty]; rfl
  obtain ⟨cmd, opid, P, d, hdec⟩ :=
    (frameDecode_append_crcTrailer_accepts_iff (fb := true) (byteAt_of_getElem? hstart) hrequired).mpr
      (.inr ⟨rfl, hseed.symm⟩)
  obtain ⟨-, -, -, -, hP⟩ := frameDecode_accept hdec
  rw [framePayload_append hrequired.ge, framePayload, frameSpan_of_length hrequired, headerLength, hempty] at hP
  subst hP
  exact ⟨cmd, opid, d, hdec⟩

/-- Settles O31: where the flag is read, "off" does not accept. -/
theorem fallbackOnlyAddsAcceptedInputs : Obligations.FallbackOnlyAddsAcceptedInputs := by
  intro B cmd opid P p d h
  rcases frameDecode_fallback_cases B with hmismatch | hsame
  · rw [hmismatch] at h
    cases h
  · exact hsame.trans h

/-- Settles O34: the three clauses are the tests on the length, which the bytes behind the frame do not change. -/
theorem crcPresenceByLengthAlone : Obligations.CrcPresenceByLengthAlone := by
  refine ⟨fun B X fb h => frameDecode_append ?_ X, fun B x fb h => frameDecode_append_one h x,
    fun B fb cmd opid P p d h => (frameDecode_present_iff h).trans ?_⟩
  · rw [frameRequired_eq_getD]; omega
  · rw [frameRequired_eq_getD, Nat.add_right_comm]

end Sys2Proof.Safety
end

section
/-! PROOF. FRM.DEC by its outcome (spec/42_frame_decode.md R120 to R133): the outcome of the pure decoder is a row of
R133's table, read off RXBUF it is `decodePath`, and the row says what STATUS, CRC and the Response become. -/

namespace Sys2Proof.Safety

open Sys2Proof.Machine

variable {s t : State}

/-! ### The outcome of the pure decoder -/

/-- The outcome of `frame_decode` as a row of R133: the tests that its result and its last CRC share. -/
def frameOutcome (B : List Byte) (fb : Bool) : DecodePath :=
  if B.length < 8 then .tooShort
  else if byteAt B 0 ≠ 0x55#8 then .badStart
  else if B.length < frameRequired B then .truncated
  else if B.length < frameRequired B + 2 then .noCrc
  else if frameRxCrc B = crc16 (frameSpan B) then .fullSpan
  else if fb ∧ frameRxCrc B = crc16 (framePayload B) then .payloadOnly
  else .mismatch

/-- What FRM.DEC is to do on an outcome: the fields of the sequence accepted, or a code. -/
def outcomeResult (B : List Byte) (p : DecodePath) : DecodeResult :=
  match p with
  | .badCount => .reject .badCount
  | .tooShort => .reject .tooShort
  | .badStart => .reject .badStart
  | .truncated => .reject .truncated
  | .noCrc => acceptFrame B false false
  | .fullSpan => acceptFrame B true false
  | .payloadOnly => acceptFrame B true true
  | .mismatch => .reject .crcMismatch

/-- The last CRC computed on an outcome, `c` where none is (spec/42_frame_decode.md R131). -/
def outcomeCrc (c : Half) (B : List Byte) (fb : Bool) (p : DecodePath) : Half :=
  match p with
  | .fullSpan => crc16 (frameSpan B)
  | .payloadOnly => crc16 (framePayload B)
  | .mismatch => if fb then crc16 (framePayload B) else crc16 (frameSpan B)
  | .badCount => c
  | .tooShort => c
  | .badStart => c
  | .truncated => c
  | .noCrc => c

theorem frameDecode_eq_outcomeResult (B : List Byte) (fb : Bool) :
    frameDecode B fb = outcomeResult B (frameOutcome B fb) := by
  unfold frameDecode frameOutcome
  split_ifs <;> rfl

theorem lastCrc_getD_eq_outcomeCrc (B : List Byte) (fb : Bool) (c : Half) :
    (lastCrc B fb).getD c = outcomeCrc c B fb (frameOutcome B fb) := by
  unfold lastCrc frameOutcome
  split_ifs with _ _ _ _ _ hfb hpayload hpayload
  iterate 6 rfl
  · exact (if_pos hfb).symm
  · exact absurd hpayload.1 hfb
  · exact (if_neg hfb).symm

/-! ### The fields of the received bytes -/

theorem byteAt_received {k : Nat} (h : k < s.rxCount.toNat) : byteAt s.received k = s.readByte .rxBuf k :=
  State.firstBytes_getD s .rxBuf h

theorem frameLen_received (h : 8 ≤ s.rxCount.toNat) : frameLen s.received = s.readByte .rxBuf 5 :=
  byteAt_received (by omega)

theorem frameRequired_received (h : 8 ≤ s.rxCount.toNat) : frameRequired s.received = 8 + rxLen s := by
  rw [frameRequired, frameLen_received h, headerLength, rxLen]

theorem frameSpan_received (h : 8 + rxLen s ≤ s.rxCount.toNat) :
    frameSpan s.received = s.firstBytes .rxBuf (8 + rxLen s) := by
  rw [frameSpan, frameRequired_received (by omega)]
  exact State.take_firstBytes h s .rxBuf

theorem drop_firstBytes (s : State) (S : Space) (m n : Nat) :
    (s.firstBytes S (m + n)).drop m = (List.range n).map (fun k => s.readByte S (m + k)) :=
  List.ext_getElem (by simp) fun a _ _ => by simp

theorem framePayload_received (h : 8 + rxLen s ≤ s.rxCount.toNat) : framePayload s.received = rxPayload s := by
  rw [framePayload, frameSpan_received h, headerLength, drop_firstBytes, rxPayload]

theorem frameRxCrc_received (h : 10 + rxLen s ≤ s.rxCount.toNat) : frameRxCrc s.received = rxTrailer s := by
  rw [frameRxCrc, frameRequired_received (by omega), byteAt_received (by omega), byteAt_received (by omega),
    joinBytes_eq_append, rxTrailer, Nat.add_right_comm]

theorem fallbackEn_eq_true_iff (s : State) : s.fallbackEn = true ↔ s.cfg = 1#1 :=
  (by decide : ∀ c : BitVec 1, c.getLsbD 0 = true ↔ c = 1#1) s.cfg

/-! ### The outcome of FRM.DEC -/

theorem decodePath_of_badCount (h : s.badCount = true) : decodePath s = .badCount :=
  if_pos (State.badCount_eq_true_iff.mp h)

/-- The statements' outcome, read off RXBUF byte by byte, is the pure decoder's on the received sequence. -/
theorem frameOutcome_received (h : s.badCount = false) : frameOutcome s.received s.fallbackEn = decodePath s := by
  rw [State.badCount_eq_false_iff] at h
  rw [frameOutcome, decodePath, if_neg (Nat.not_lt.mpr h), State.received_length]
  refine ite_congr rfl (fun _ => rfl) fun hheader => ?_
  rw [byteAt_received (by omega), frameRequired_received (by omega)]
  refine ite_congr rfl (fun _ => rfl) fun _ => ite_congr rfl (fun _ => rfl) fun hrequired => ?_
  refine ite_congr (by rw [Nat.add_right_comm]) (fun _ => rfl) fun hcrc => ?_
  rw [frameRxCrc_received (by omega), frameSpan_received (by omega), framePayload_received (by omega)]
  refine ite_congr rfl (fun _ => rfl) fun _ => ite_congr ?_ (fun _ => rfl) fun _ => rfl
  rw [fallbackEn_eq_true_iff, rxPayloadCrc]

/-- FRM.DEC that accepts or compares a CRC has header and payload before it. -/
theorem rxLen_le_of_decodePath (h : decodePath s ∉ [.badCount, .tooShort, .badStart, .truncated]) :
    8 + rxLen s ≤ s.rxCount.toNat := by
  unfold decodePath at h
  split_ifs at h
  iterate 4 exact absurd h (by simp)
  all_goals omega

theorem rxLen_le_of_accepts (h : (decodePath s).accepts = true) : 8 + rxLen s ≤ s.rxCount.toNat :=
  rxLen_le_of_decodePath fun hrejects =>
    (by decide : ∀ p ∈ [DecodePath.badCount, .tooShort, .badStart, .truncated], p.accepts ≠ true) _ hrejects h

theorem outcomeCrc_received (s : State) :
    outcomeCrc s.crc s.received s.fallbackEn (decodePath s) = decodeCrc s := by
  unfold decodeCrc
  cases hp : decodePath s with
  | fullSpan => exact congrArg crc16 (frameSpan_received (rxLen_le_of_decodePath (by simp [hp])))
  | payloadOnly => exact congrArg crc16 (framePayload_received (rxLen_le_of_decodePath (by simp [hp])))
  | mismatch =>
    have hrx : 8 + rxLen s ≤ s.rxCount.toNat := rxLen_le_of_decodePath (by simp [hp])
    simp only [outcomeCrc, fallbackEn_eq_true_iff, frameSpan_received hrx, framePayload_received hrx, rxFullCrc,
      rxPayloadCrc]
  | _ => rfl

/-- Each row of R133: STATUS, and the Response where the row accepts (spec/42_frame_decode.md R130, R132). -/
theorem finishDecode_outcomeResult (s : State) (B : List Byte) (p : DecodePath) :
    s.finishDecode (outcomeResult B p) =
      (if p.accepts then s.commitResponse (frameCommand B) (frameOpid B) (framePayload B) else s).setStatus
        p.status := by
  cases p <;> rfl

/-- FRM.DEC by its outcome: CRC and STATUS always, the Response where the outcome accepts. -/
theorem execFrmDec_eq (s : State) : exec .frmDec s =
    .next ((if (decodePath s).accepts then
      (s.setCrc (decodeCrc s)).commitResponse (frameCommand s.received) (frameOpid s.received) (framePayload s.received)
    else s.setCrc (decodeCrc s)).setStatus (decodePath s).status) := by
  rw [← finishDecode_outcomeResult, ← outcomeCrc_received]
  cases hcount : s.badCount with
  | true => rw [decodePath_of_badCount hcount]; exact execFrmDec_of_badCount hcount
  | false =>
    rw [execFrmDec_of_not_badCount hcount, frameDecode_eq_outcomeResult, lastCrc_getD_eq_outcomeCrc,
      frameOutcome_received hcount]

theorem execFrmDec_rejects (h : (decodePath s).accepts = false) :
    exec .frmDec s = .next ((s.setCrc (decodeCrc s)).setStatus (decodePath s).status) := by
  rw [execFrmDec_eq, h, if_neg Bool.false_ne_true]

/-- The Response committed is the one that RXBUF holds (spec/42_frame_decode.md R129). -/
theorem execFrmDec_accepts (h : (decodePath s).accepts = true) :
    exec .frmDec s = .next (((s.setCrc (decodeCrc s)).commitResponse (s.readByte .rxBuf 4 ++ s.readByte .rxBuf 3)
      (s.readByte .rxBuf 7) (rxPayload s)).setStatus (decodePath s).status) := by
  have hrx := rxLen_le_of_accepts h
  rw [execFrmDec_eq, if_pos h, frameCommand, byteAt_received (by omega), byteAt_received (by omega),
    joinBytes_eq_append, frameOpid, byteAt_received (by omega), framePayload_received hrx]

theorem execFrmDec_status_crc (s : State) :
    ∃ t, exec .frmDec s = .next t ∧ t.status = (decodePath s).status ∧ t.crc = decodeCrc s := by
  cases h : (decodePath s).accepts with
  | true => exact ⟨_, execFrmDec_accepts h, rfl, by simp⟩
  | false => exact ⟨_, execFrmDec_rejects h, rfl, rfl⟩

/-- Settles O19: the outcome that accepts and the one that rejects both end by writing STATUS from the table. -/
theorem frmDecStatusTable : Obligations.FrmDecStatusTable := fun s =>
  have ⟨t, h, hstatus, _⟩ := execFrmDec_status_crc s
  ⟨t, h, hstatus⟩

/-- Settles O20: CRC is written on both ends, on the paths that compute none with the value it held. -/
theorem frmDecCrcTable : Obligations.FrmDecCrcTable := fun s =>
  have ⟨t, h, _, hcrc⟩ := execFrmDec_status_crc s
  ⟨t, h, hcrc⟩

/-! ### The Response -/

theorem rxPayload_length (s : State) : (rxPayload s).length = rxLen s := by
  rw [rxPayload, List.length_map, List.length_range]

theorem rxPayload_fits (s : State) : (rxPayload s).length ≤ spaceSize s.config .rspPayload := by
  have hlen : rxLen s < 2 ^ 8 := (s.readByte .rxBuf 5).isLt
  rw [rxPayload_length]
  show _ ≤ 255
  omega

theorem ofNat_rxPayload_length (s : State) : BitVec.ofNat 8 (rxPayload s).length = s.readByte .rxBuf 5 := by
  rw [rxPayload_length, rxLen, BitVec.ofNat_toNat, BitVec.setWidth_eq]

theorem execFrmDec_readByte_of_accepts (ha : (decodePath s).accepts = true) (h : exec .frmDec s = .next t) (S : Space)
    (a : Nat) : t.readByte S a = (s.storeBytes .rspPayload (rxPayload s)).readByte S a := by
  rw [execFrmDec_accepts ha] at h
  cases h
  rw [State.setStatus_readByte, State.commitResponse_eq, State.setRsp_readByte]
  exact State.readByte_congr rfl rfl rfl a

theorem execFrmDec_rspPayload (ha : (decodePath s).accepts = true) (h : exec .frmDec s = .next t) :
    t.firstBytes .rspPayload (rxLen s) = rxPayload s := by
  rw [State.firstBytes_congr fun a _ => execFrmDec_readByte_of_accepts ha h .rspPayload a, ← rxPayload_length]
  exact s.firstBytes_storeBytes (rxPayload_fits s)

theorem execFrmDec_sameBytesBut (ha : (decodePath s).accepts = true) (h : exec .frmDec s = .next t) :
    SameBytesBut .rspPayload (rxLen s) s t := by
  intro T a hne
  rw [execFrmDec_readByte_of_accepts ha h, State.readByte_storeBytes, rxPayload_length, if_neg (by tauto)]

theorem execFrmDec_sameSurroundings (ha : (decodePath s).accepts = true) (h : exec .frmDec s = .next t) :
    SameSurroundings s t := by
  rw [execFrmDec_accepts ha] at h
  cases h
  constructor <;> simp

/-- Settles O21: an accepting outcome is one commit of RXBUF's Response, a rejecting one writes CRC and STATUS alone. -/
theorem frmDecAcceptCommitsResponse : Obligations.FrmDecAcceptCommitsResponse := by
  refine ⟨fun s ha => ?accepts, fun s hr => ⟨_, execFrmDec_rejects hr, ⟨rfl, rfl, rfl⟩, ?rejects⟩⟩
  case accepts =>
    have h := execFrmDec_accepts ha
    exact ⟨_, h, rfl, rfl, ofNat_rxPayload_length s, execFrmDec_rspPayload ha h, execFrmDec_sameBytesBut ha h, rfl,
      by simp, exec_txCount_kept h (by simp) (by simp), execFrmDec_sameSurroundings ha h,
      exec_hostRegisters_kept h (by simp)⟩
  case rejects => exact setCrc_setStatus_sameBytes s _ _ .rspPayload

/-- Settles O22: the fields of STATUS are read off the table's value. -/
theorem frmDecRejectChangesStatusAndCrcOnly : Obligations.FrmDecRejectChangesStatusAndCrcOnly := by
  intro s hr
  refine ⟨_, execFrmDec_rejects hr, rfl, setCrc_setStatus_sameBytes s _ _, ⟨rfl, rfl, rfl⟩, ?_⟩
  rw [State.setStatus_status]
  revert hr
  cases decodePath s <;> decide

end Sys2Proof.Safety
end

section
/-! PROOF. FRM.DEC and CRC.CALC read RXBUF below RX_COUNT only (spec/42_frame_decode.md R124, spec/10_state.md R38). -/

namespace Sys2Proof.Safety

open Sys2Proof.Machine

variable {s : State}

/-- Neither end of FRM.DEC reaches RXBUF. -/
theorem finishDecode_withRxBuf (s : State) (m : Memory) (c : Half) (r : DecodeResult) :
    (({ s with rxBuf := m } : State).setCrc c).finishDecode r
      = { (s.setCrc c).finishDecode r with rxBuf := m } := by
  cases r with
  | accept cmd opid P present domain => rfl
  | reject e => rfl

/-- Two memories that read alike below RX_COUNT hold the same received sequence. -/
theorem received_withRxBuf {m : Memory}
    (hbytes : ∀ a < s.rxCount.toNat, ({ s with rxBuf := m } : State).readByte .rxBuf a = s.readByte .rxBuf a) :
    ({ s with rxBuf := m } : State).received = s.received := State.firstBytes_congr hbytes

/-- Settles O35: each of the two commands reads RXBUF as the received sequence alone. -/
theorem bytesPastRxCountHaveNoInfluence : Obligations.BytesPastRxCountHaveNoInfluence := by
  rintro s t _ m i hi rfl hbytes h
  have hreceived := received_withRxBuf hbytes
  rcases hi with rfl | rfl
  · rcases execFrmDec_next h with ⟨hcount, rfl⟩ | ⟨hcount, rfl⟩
    · exact execFrmDec_of_badCount hcount
    · have hrun := execFrmDec_of_not_badCount (s := { s with rxBuf := m }) hcount
      rw [hreceived] at hrun
      exact hrun.trans (congrArg _ (finishDecode_withRxBuf s m _ _))
  · rcases execCrcCalc_next h with ⟨hcount, rfl⟩ | ⟨hcount, rfl⟩
    · exact execCrcCalc_of_badCount hcount
    · have hrun := execCrcCalc_of_not_badCount (s := { s with rxBuf := m }) hcount
      rwa [hreceived] at hrun

end Sys2Proof.Safety
end


section
/-! PROOF. The system commands NOP and SRST (spec/43_system.md R141, R142): NOP is the identity, SRST the reset of the
registers, which is HardReset without its clearing of the memories. -/

namespace Sys2Proof

/-- A command without an operand has no other word than the one with `imm8` 0 (spec/30_encoding.md R79 (b)). -/
theorem decode_commandWord_ne_ok {op imm8 : Byte} (hop : op ≠ 0x02#8) (himm : imm8 ≠ 0x00#8) (i : Instr) :
    decode (commandWord op imm8) ≠ .ok i :=
  (not_decodes_iff (commandWord op imm8)).mpr (.inr (by rw [commandFields_commandWord]; exact ⟨hop, himm⟩)) i

end Sys2Proof

namespace Sys2Proof.Machine

/-! ### The commands run forward -/

theorem execNop_eq (s : State) : exec .nop s = .next s := rfl

theorem execSrst_eq (s : State) : exec .srst s = .next s.resetRegisters := rfl

/-! ### The reset of the registers -/

theorem State.resetRegisters_twice (s : State) : s.resetRegisters.resetRegisters = s.resetRegisters := rfl

theorem execSrst_twice (s : State) : exec .srst s.resetRegisters = .next s.resetRegisters := by
  rw [execSrst_eq, State.resetRegisters_twice]

/-- HardReset writes more than SRST in the memories and in the number of the reset only (spec/43_system.md R142). -/
theorem State.hardReset_eq_resetRegisters_but_memories (s : State) :
    s.hardReset = { s.resetRegisters with
      epoch := s.hardReset.epoch, reqPayload := s.hardReset.reqPayload, txBuf := s.hardReset.txBuf
      rxBuf := s.hardReset.rxBuf, rspPayload := s.hardReset.rspPayload } := by
  rw [State.hardReset_eq, State.clearMemories]

end Sys2Proof.Machine

namespace Sys2Proof.Safety

open Sys2Proof.Machine

theorem resetRegisters_sameBytes (s : State) : SameBytes s s.resetRegisters :=
  s.resetRegisters_readByte

/-- Settles O12: the opcode of NOP takes no operand. -/
theorem nopChangesNothing : Obligations.NopChangesNothing :=
  ⟨execNop_eq, rfl, fun _ i himm => decode_commandWord_ne_ok (by decide) himm i⟩

/-- Settles O23: each register has its value of spec/10_state.md R42, column "after SRST". -/
theorem srstResetsRegistersKeepsMemories : Obligations.SrstResetsRegistersKeepsMemories := by
  refine ⟨fun s => ⟨s.resetRegisters, execSrst_eq s, rfl, rfl, rfl, rfl, rfl, rfl, rfl, rfl, rfl, rfl, rfl, rfl,
    resetRegisters_sameBytes s, rfl, rfl, rfl, rfl, execSrst_twice s, ?hardReset⟩, rfl⟩
  case hardReset => exact ⟨s.hardReset, rfl, State.hardReset_eq_resetRegisters_but_memories s⟩

end Sys2Proof.Safety
end


section
/-! PROOF. A command that fails (spec/60_exceptions.md R155, R156, R160): what it leaves is one write of STATUS, and for
FRM.DEC one of CRC before it. -/

namespace Sys2Proof.Machine

theorem statusOk_statusSuccess (st : BitVec 8) : statusOk (statusSuccess st) = true := statusOk_statusWithOutcome ..

end Sys2Proof.Machine

namespace Sys2Proof.Safety

open Sys2Proof.Machine

variable {s t : State}

/-- OK is 0 exactly on the outcomes that reject (spec/42_frame_decode.md R133). -/
theorem DecodePath.statusOk_status (p : DecodePath) : statusOk p.status = p.accepts := by cases p <;> decide

/-- The fields that raise DecodeFail writes beside OK (spec/60_exceptions.md R155). -/
theorem DecodePath.status_of_rejects {p : DecodePath} (h : p.accepts = false) :
    statusErr p.status ≠ 0#4 ∧ statusRspValid p.status = false ∧ statusCrcDomain p.status = false
      ∧ (statusCrcPresent p.status = true ↔ statusErr p.status = 4#4) := by
  revert h
  cases p <;> decide

/-- Of the outcomes that reject, CRC_MISMATCH alone comes after a CRC was computed (spec/42_frame_decode.md R131). -/
theorem decodePath_eq_mismatch_of_rejects (h : (decodePath s).accepts = false) (hcrc : decodeCrc s ≠ s.crc) :
    decodePath s = .mismatch := by
  unfold decodeCrc at hcrc
  cases hp : decodePath s with
  | mismatch => rfl
  | badCount | tooShort | badStart | truncated => exact absurd (by rw [hp]) hcrc
  | noCrc | fullSpan | payloadOnly => rw [hp] at h; exact absurd h (by decide)

theorem execFrmDec_failed (h : exec .frmDec s = .next t) (hfail : statusOk t.status = false) :
    (decodePath s).accepts = false ∧ t = (s.setCrc (decodeCrc s)).setStatus (decodePath s).status := by
  obtain ⟨u, hu, hstatus, -⟩ := execFrmDec_status_crc s
  cases hu.symm.trans h
  have hrejects : (decodePath s).accepts = false := by rw [← DecodePath.statusOk_status, ← hstatus, hfail]
  exact ⟨hrejects, Host.Outcome.next.inj (h.symm.trans (execFrmDec_rejects hrejects))⟩

/-- Of the seven commands only CRC.CALC and FRM.DEC can fail (spec/60_exceptions.md R155, R156). -/
theorem exec_failed_cases {i : Instr} (h : exec i s = .next t) (hn : i ≠ .nop) (hs : i ≠ .srst)
    (hfail : statusOk t.status = false) :
    (i = .crcCalc ∧ s.badCount = true ∧ t = s.setStatus (statusCmdFail s.status .badCount))
      ∨ (i = .frmDec ∧ (decodePath s).accepts = false
        ∧ t = (s.setCrc (decodeCrc s)).setStatus (decodePath s).status) := by
  have hsuccess {st : BitVec 8} : t.status ≠ statusSuccess st := fun ht => by
    rw [ht, statusOk_statusSuccess] at hfail
    exact absurd hfail (by decide)
  cases i with
  | nop => exact absurd rfl hn
  | crcInit => exact absurd (congrArg State.status (execCrcInit_next h)) hsuccess
  | crcByte imm8 => exact absurd (congrArg State.status (execCrcByte_next h)) hsuccess
  | crcCalc =>
    rcases execCrcCalc_next h with ⟨hbad, ht⟩ | ⟨-, ht⟩
    · exact .inl ⟨rfl, hbad, ht⟩
    · exact absurd (congrArg State.status ht) hsuccess
  | frmEnc => exact absurd (execFrmEnc_status h) hsuccess
  | frmDec => exact .inr ⟨rfl, execFrmDec_failed h hfail⟩
  | srst => exact absurd rfl hs

/-- An issued word fails by raise CmdFail, or is FRM.DEC and fails by raise DecodeFail; an illegal word does the
former (spec/60_exceptions.md R155, R156). -/
theorem issueCommand_failed_cases {w : Word32} (h : issueCommand w s = .next t) (hn : decodeCommand w ≠ .ok .nop)
    (hs : decodeCommand w ≠ .ok .srst) (hfail : statusOk t.status = false) :
    (decodeCommand w ≠ .ok .frmDec ∧ ∃ e, t = s.setStatus (statusCmdFail s.status e))
      ∨ (decodeCommand w = .ok .frmDec ∧ (decodePath s).accepts = false
        ∧ t = (s.setCrc (decodeCrc s)).setStatus (decodePath s).status) := by
  cases hw : decodeCommand w with
  | error g =>
    rw [issueCommand_of_error hw] at h
    cases h
    exact .inl ⟨nofun, _, rfl⟩
  | ok i =>
    rw [issueCommand_of_ok hw] at h
    rcases exec_failed_cases h (fun hi => hn (hi ▸ hw)) (fun hi => hs (hi ▸ hw)) hfail with
      ⟨rfl, -, ht⟩ | ⟨rfl, hrejects, ht⟩
    · exact .inl ⟨nofun, _, ht⟩
    · exact .inr ⟨rfl, hrejects, ht⟩

/-- Settles O27: raise CmdFail writes the outcome in STATUS alone, raise DecodeFail all of STATUS, after CRC. -/
theorem failureIsPrecise : Obligations.FailureIsPrecise := by
  intro w s t hn hs h hfail
  rcases issueCommand_failed_cases h hn hs hfail with ⟨hw, e, rfl⟩ | ⟨hw, hrejects, rfl⟩
  · have hreports := statusCmdFail_reports s e
    exact ⟨rfl, absurd rfl, hreports.err ▸ e.code_ne_zero, fun hdec => absurd hdec hw, fun _ => hreports.bits⟩
  · obtain ⟨herr, hfields⟩ := DecodePath.status_of_rejects hrejects
    refine ⟨rfl, fun hcrc => ⟨hw, ?mismatch⟩, herr, fun _ => hfields, absurd hw⟩
    case mismatch =>
      rw [State.setStatus_status, decodePath_eq_mismatch_of_rejects hrejects hcrc]
      rfl

end Sys2Proof.Safety
end

section
/-! PROOF. Bytes that nothing has written since the last hardware reset (spec/70_reset_and_hazards.md R172): no step but
HardReset takes a byte off the written ones, so a byte still unwritten after a step was so before it and reads as the
same free byte. -/

namespace Sys2Proof.Machine

variable {s t : State} {S : Space}

/-- An unwritten byte reads as the free byte of its reset (log 5), past the end of its space as 0. -/
theorem State.readByte_of_unwritten {a : Nat} (h : (s.space S).get? a = none) :
    s.readByte S a = if a < spaceSize s.config S then Config.unwrittenByte s.epoch S a else 0x00#8 := by
  rw [State.readByte, h, Option.getD_none]

/-- What was written in `s` is written in `t`. -/
def WrittenStay (s t : State) : Prop :=
  ∀ S a, ((s.space S).get? a).isSome = true → ((t.space S).get? a).isSome = true

theorem WrittenStay.of_space (h : ∀ S, t.space S = s.space S) : WrittenStay s t := fun S a hs => by rwa [h S]

theorem WrittenStay.of_setSpace {m : Memory}
    (h : ∀ a, ((s.space S).get? a).isSome = true → (m.get? a).isSome = true) : WrittenStay s (s.setSpace S m) := by
  intro T a hs
  by_cases hT : T = S
  · subst hT
    rw [State.setSpace_space_same]
    exact h a hs
  · rwa [State.setSpace_space_ne s hT]

theorem WrittenStay.storeBytes (s : State) (S : Space) (bs : List Byte) : WrittenStay s (s.storeBytes S bs) :=
  .of_setSpace fun _ hs => Memory.isSome_get?_putAll _ bs (.inr hs)

theorem WrittenStay.trans {u : State} (hst : WrittenStay s t) (htu : WrittenStay t u) : WrittenStay s u :=
  fun S a hs => htu S a (hst S a hs)

theorem exec_writtenStay {i : Instr} (h : exec i s = .next t) : WrittenStay s t := by
  cases exec_effect h with
  | unchanged => exact .of_space fun _ => rfl
  | crcAndStatus _ c st => exact .of_space fun _ => by simp
  | frame c st => exact (WrittenStay.storeBytes s .txBuf s.requestFrame).trans (.of_space fun _ => by simp)
  | response c st cmd opid P =>
    exact (WrittenStay.storeBytes s .rspPayload P).trans (.of_space fun S => by cases S <;> rfl)
  | registersReset => exact .of_space s.resetRegisters_space

/-- HardReset alone clears a memory, and it begins a new reset (log 7). -/
theorem Served.writtenStay (h : Served s t) (hepoch : t.epoch = s.epoch) : WrittenStay s t := by
  cases h with
  | reply r => exact .of_space fun _ => by simp
  | register r v => exact .of_space fun _ => by simp
  | byte S a b _ _ => exact .of_setSpace fun _ hs => Memory.isSome_get?_put hs a b
  | ignored => exact .of_space fun _ => rfl
  | command i _ hi => exact exec_writtenStay hi
  | illegal => exact .of_space fun _ => by simp
  | reset => exact absurd hepoch (Nat.succ_ne_self s.epoch)

theorem step_writtenStay (h : step s = .next t) (hepoch : t.epoch = s.epoch) : WrittenStay s t := by
  rcases step_cases h with ⟨-, rfl⟩ | ⟨m, rest, -, hserved⟩
  · exact .of_space fun _ => rfl
  · have htaken : WrittenStay s (s.takeMove rest) := .of_space (s.takeMove_space rest)
    exact htaken.trans (hserved.writtenStay hepoch)

theorem State.hardReset_unwritten (s : State) (S : Space) (a : Nat) : (s.hardReset.space S).get? a = none := by
  rw [State.hardReset_eq, State.clearMemories_space, Memory.get?_nil]

end Sys2Proof.Machine

namespace Sys2Proof.Safety

open Sys2Proof.Machine

/-- Settles O37: the byte was not written before the step, and both reads are of the same free byte. -/
theorem unwrittenBytesAreStable : Obligations.UnwrittenBytesAreStable := by
  intro s t S a h hepoch hafter
  obtain ⟨hconfig, -, -⟩ := stepKeepsParameterAndTakesOneMove s t h
  have hbefore : (s.space S).get? a = none := by
    rw [← Option.not_isSome_iff_eq_none]
    exact fun hs => Option.not_isSome_iff_eq_none.mpr hafter (step_writtenStay h hepoch S a hs)
  refine ⟨hbefore, ?_⟩
  rw [State.readByte_of_unwritten hafter, State.readByte_of_unwritten hbefore, hconfig, hepoch]

/-- Settles O42: the reset leaves no byte written. -/
theorem hardResetMemoriesUnspecified : Obligations.HardResetMemoriesUnspecified := by
  refine fun s => ⟨s.hardReset, rfl, rfl, rfl, fun S a ha => ?_⟩
  exact (State.readByte_of_unwritten (s.hardReset_unwritten S a)).trans (if_pos ha)

end Sys2Proof.Safety
end

section
/-! PROOF. The two frame commands from the reset state (spec/70_reset_and_hazards.md R173). -/

namespace Sys2Proof.Safety

open Sys2Proof.Machine

/-- The operand registers hold the all-zero Request after reset; its frame is V-E2 (spec/95_test_vectors.md). -/
theorem requestFrame_reset : State.reset.requestFrame
    = [0x55#8, 0x60#8, 0x01#8, 0x00#8, 0x00#8, 0x00#8, 0x00#8, 0x00#8, 0xE4#8, 0xDF#8] := by decide +kernel

/-- RX_COUNT is 0 after reset. -/
theorem decodePath_reset : decodePath State.reset = .tooShort := rfl

/-- Settles O43. -/
theorem commandsFromReset : Obligations.CommandsFromReset := by
  obtain ⟨t, henc⟩ := exec_goesOn .frmEnc State.reset
  obtain ⟨u, hdec, hstatus, -⟩ := execFrmDec_status_crc State.reset
  rw [decodePath_reset] at hstatus
  refine ⟨⟨t, henc, ?_⟩, u, hdec, by rw [hstatus]; decide, by rw [hstatus]; decide⟩
  rw [execFrmEnc_txCount henc, execFrmEnc_txBuf henc, requestFrame_reset]

end Sys2Proof.Safety
end

section
/-! PROOF. The engine's runs inside a command (spec/70_reset_and_hazards.md R183, spec/40_crc.md R93): a run takes eight
bit-steps per byte of its span and ends with the checksum of the span, and the last run of a command ends with the CRC
that the command leaves. -/

namespace Sys2Proof.Safety

open Sys2Proof.Machine

theorem engineComputes_crcFrom (c : Half) (span : List Byte) :
    EngineComputes c span (8 * span.length) (crcFrom c span) := by
  intro s ph hph
  obtain ⟨hend, hbusy⟩ := serialEngineRefinesByteSteps (s.setCrc c) ph span hph
  exact ⟨hend, fun k hk => by rw [hbusy k hk]; exact hph⟩

theorem engineComputes_crc16 {span : List Byte} {n : Nat} (h : span.length = n) :
    EngineComputes 0xFFFF#16 span (8 * n) (crc16 span) := h ▸ engineComputes_crcFrom crcSeed span

end Sys2Proof.Safety

namespace Sys2Proof.Machine

open Sys2Proof.Safety

variable {s t : State} {i : Instr} {p : SerialPass} {ps : List SerialPass}

/-! ### One run and runs in a row -/

theorem State.passBitSteps_eq (s : State) (hp : p.phase ≠ .idle) : s.passBitSteps p = 8 * p.span.length := by
  obtain ⟨hend, hbusy⟩ := engineComputes_crcFrom p.start p.span s p.phase hp
  exact State.serialCount_eq (Nat.le_succ _) hbusy (congrArg (fun u => u.sequencer.phase) hend)

theorem State.runPass_crc (s : State) (hp : p.phase ≠ .idle) : (s.runPass p).crc = crcFrom p.start p.span := by
  rw [State.runPass, s.passBitSteps_eq hp]
  exact congrArg State.crc (engineComputes_crcFrom p.start p.span s p.phase hp).1

/-- What runs in a row leave in CRC: each starts from a value of its own, so the last one decides. -/
def passesCrc (c : Half) (ps : List SerialPass) : Half := ps.foldl (fun _ p => crcFrom p.start p.span) c

theorem passesCrc_singleton (c : Half) (p : SerialPass) : passesCrc c [p] = crcFrom p.start p.span := rfl

theorem State.runPasses_crc (s : State) (hps : ∀ p ∈ ps, p.phase ≠ .idle) :
    (s.runPasses ps).crc = passesCrc s.crc ps := by
  induction ps generalizing s with
  | nil => rfl
  | cons p ps ih =>
    obtain ⟨hp, hrest⟩ := List.forall_mem_cons.mp hps
    calc (s.runPasses (p :: ps)).crc = passesCrc (s.runPass p).crc ps := ih (s.runPass p) hrest
      _ = passesCrc s.crc (p :: ps) := by rw [s.runPass_crc hp]; rfl

/-! ### The runs of FRM.DEC -/

/-- The run over header and payload (spec/42_frame_decode.md R126). -/
def State.fullSpanPass (s : State) : SerialPass :=
  { phase := .header, start := crcSeed, span := s.firstBytes .rxBuf (8 + rxLen s) }

/-- The run over the payload alone (spec/42_frame_decode.md R127). -/
def State.payloadPass (s : State) : SerialPass :=
  { phase := .secondPass, start := crcSeed, span := rxPayload s }

/-- The runs on an outcome of the pure decoder: none where it computes no CRC. -/
def outcomePasses (B : List Byte) (fb : Bool) (p : DecodePath) : List SerialPass :=
  match p with
  | .fullSpan => [{ phase := .header, start := crcSeed, span := frameSpan B }]
  | .payloadOnly =>
    [{ phase := .header, start := crcSeed, span := frameSpan B },
      { phase := .secondPass, start := crcSeed, span := framePayload B }]
  | .mismatch =>
    { phase := .header, start := crcSeed, span := frameSpan B }
      :: if fb then [{ phase := .secondPass, start := crcSeed, span := framePayload B }] else []
  | .badCount => []
  | .tooShort => []
  | .badStart => []
  | .truncated => []
  | .noCrc => []

theorem decodePasses_eq_outcomePasses (B : List Byte) (fb : Bool) :
    decodePasses B fb = outcomePasses B fb (frameOutcome B fb) := by
  unfold decodePasses lastCrc frameOutcome
  by_cases hheader : B.length < 8
  · simp only [if_pos hheader]; rfl
  by_cases hstart : byteAt B 0 ≠ 0x55#8
  · simp only [if_neg hheader, if_pos hstart]; rfl
  by_cases hrequired : B.length < frameRequired B
  · simp only [if_neg hheader, if_neg hstart, if_pos hrequired]; rfl
  by_cases hcrc : B.length < frameRequired B + 2
  · simp only [if_neg hheader, if_neg hstart, if_neg hrequired, if_pos hcrc]; rfl
  simp only [if_neg hheader, if_neg hstart, if_neg hrequired, if_neg hcrc]
  by_cases hfull : frameRxCrc B = crc16 (frameSpan B)
  · simp [hfull, outcomePasses]
  · rw [if_neg hfull]
    cases fb with
    | false => simp [hfull, outcomePasses]
    | true =>
      simp only [↓reduceIte, reduceCtorEq, ne_eq, hfull, not_false_eq_true, and_self, true_and]
      split <;> rfl

theorem commandPasses_frmDec (s : State) :
    commandPasses .frmDec s = outcomePasses s.received s.fallbackEn (decodePath s) := by
  cases hcount : s.badCount with
  | true => rw [decodePath_of_badCount hcount, commandPasses, if_pos hcount]; rfl
  | false =>
    rw [commandPasses, if_neg (by rw [hcount]; exact Bool.false_ne_true), decodePasses_eq_outcomePasses,
      frameOutcome_received hcount]

/-- The outcomes on which FRM.DEC computes no CRC (spec/42_frame_decode.md R131). -/
theorem frmDec_of_noCrcComputed (h : decodePath s ∈ [.badCount, .tooShort, .badStart, .truncated, .noCrc]) :
    commandPasses .frmDec s = [] ∧ decodeCrc s = s.crc := by
  rw [commandPasses_frmDec, decodeCrc]
  generalize decodePath s = path at h ⊢
  cases path with
  | badCount | tooShort | badStart | truncated | noCrc => exact ⟨rfl, rfl⟩
  | fullSpan | payloadOnly | mismatch => exact absurd h (by decide)

/-- The full span alone is run over where it matches or the fallback is off (spec/42_frame_decode.md R126). -/
theorem frmDec_of_fullSpanAlone (h : decodePath s = .fullSpan ∨ (decodePath s = .mismatch ∧ s.cfg = 0#1)) :
    commandPasses .frmDec s = [s.fullSpanPass] ∧ decodeCrc s = rxFullCrc s := by
  have hrx : 8 + rxLen s ≤ s.rxCount.toNat :=
    rxLen_le_of_decodePath (by rcases h with hp | ⟨hp, -⟩ <;> rw [hp] <;> decide)
  rw [commandPasses_frmDec, decodeCrc]
  rcases h with hp | ⟨hp, hcfg⟩ <;> rw [hp, State.fullSpanPass, ← frameSpan_received hrx]
  · exact ⟨rfl, rfl⟩
  · have hoff : s.fallbackEn = false := by rw [State.fallbackEn, hcfg]; rfl
    exact ⟨by rw [hoff]; rfl, if_neg (by rw [hcfg]; decide)⟩

/-- The payload is run over after a full span that does not match, with the fallback on (R127). -/
theorem frmDec_of_bothSpans (h : decodePath s = .payloadOnly ∨ (decodePath s = .mismatch ∧ s.cfg = 1#1)) :
    commandPasses .frmDec s = [s.fullSpanPass, s.payloadPass] ∧ decodeCrc s = rxPayloadCrc s := by
  have hrx : 8 + rxLen s ≤ s.rxCount.toNat :=
    rxLen_le_of_decodePath (by rcases h with hp | ⟨hp, -⟩ <;> rw [hp] <;> decide)
  rw [commandPasses_frmDec, decodeCrc]
  rcases h with hp | ⟨hp, hcfg⟩ <;>
    rw [hp, State.fullSpanPass, State.payloadPass, ← frameSpan_received hrx, ← framePayload_received hrx]
  · exact ⟨rfl, rfl⟩
  · rw [(fallbackEn_eq_true_iff s).mpr hcfg]
    exact ⟨rfl, if_pos hcfg⟩

/-- The rows of R183 for FRM.DEC leave no state out. -/
theorem frmDec_rows (s : State) :
    decodePath s ∈ [.badCount, .tooShort, .badStart, .truncated, .noCrc]
      ∨ (decodePath s = .fullSpan ∨ (decodePath s = .mismatch ∧ s.cfg = 0#1))
      ∨ (decodePath s = .payloadOnly ∨ (decodePath s = .mismatch ∧ s.cfg = 1#1)) := by
  have hcfg : s.cfg = 0#1 ∨ s.cfg = 1#1 := (by decide : ∀ c : BitVec 1, c = 0#1 ∨ c = 1#1) s.cfg
  cases decodePath s with
  | badCount | tooShort | badStart | truncated | noCrc => exact .inl (by decide)
  | fullSpan => exact .inr (.inl (.inl rfl))
  | payloadOnly => exact .inr (.inr (.inl rfl))
  | mismatch => exact .inr (hcfg.imp (fun h0 => .inr ⟨rfl, h0⟩) fun h1 => .inr ⟨rfl, h1⟩)

/-- The full span did not match where the payload is run over (spec/42_frame_decode.md R127). -/
theorem rxFullCrc_ne_rxTrailer (h : decodePath s = .payloadOnly ∨ decodePath s = .mismatch) :
    rxFullCrc s ≠ rxTrailer s := by
  intro heq
  unfold decodePath at h
  split_ifs at h with _ _ _ _ _ hfull
  iterate 6 exact absurd h (by decide)
  all_goals exact hfull heq.symm

/-! ### The runs of every command -/

theorem commandPasses_crcCalc_of_badCount (h : s.badCount = true) : commandPasses .crcCalc s = [] := if_pos h

theorem commandPasses_crcCalc_of_not_badCount (h : s.badCount = false) :
    commandPasses .crcCalc s = [{ phase := .payload, start := crcSeed, span := s.received }] :=
  if_neg (by rw [h]; exact Bool.false_ne_true)

/-- The engine is set to run in a phase that is not idle (log 8). -/
theorem commandPasses_busy (i : Instr) (s : State) : ∀ p ∈ commandPasses i s, p.phase ≠ .idle := by
  cases i with
  | nop | crcInit | srst => exact nofun
  | crcByte | frmEnc => exact List.forall_mem_singleton.mpr nofun
  | crcCalc =>
    cases hcount : s.badCount with
    | true => rw [commandPasses_crcCalc_of_badCount hcount]; exact nofun
    | false => rw [commandPasses_crcCalc_of_not_badCount hcount]; exact List.forall_mem_singleton.mpr nofun
  | frmDec =>
    rcases frmDec_rows s with h | h | h
    · rw [(frmDec_of_noCrcComputed h).1]; exact nofun
    · rw [(frmDec_of_fullSpanAlone h).1]; exact List.forall_mem_singleton.mpr nofun
    · rw [(frmDec_of_bothSpans h).1]
      exact List.forall_mem_cons.mpr ⟨nofun, List.forall_mem_singleton.mpr nofun⟩

/-- Eight bit-steps per byte of every run (spec/70_reset_and_hazards.md R183). -/
theorem commandBitSteps_eq (i : Instr) (s : State) :
    commandBitSteps i s = ((commandPasses i s).map fun p => 8 * p.span.length).sum :=
  congrArg List.sum (List.map_congr_left fun p hp => s.passBitSteps_eq (commandPasses_busy i s p hp))

theorem exec_crc_of_passes (h : exec i s = .next t) (hp : commandPasses i s ≠ []) :
    t.crc = passesCrc s.crc (commandPasses i s) := by
  cases i with
  | nop | crcInit | srst => exact absurd rfl hp
  | crcByte imm8 => rw [execCrcByte_next h]; rfl
  | crcCalc =>
    rcases execCrcCalc_next h with ⟨hcount, -⟩ | ⟨hcount, rfl⟩
    · exact absurd (commandPasses_crcCalc_of_badCount hcount) hp
    · rw [commandPasses_crcCalc_of_not_badCount hcount]; rfl
  | frmEnc => rw [execFrmEnc_crc h, commandPasses, passesCrc_singleton, crc16]
  | frmDec =>
    obtain ⟨u, hu, -, hcrc⟩ := execFrmDec_status_crc s
    cases hu.symm.trans h
    rw [hcrc]
    rcases frmDec_rows s with hrow | hrow | hrow
    · exact absurd (frmDec_of_noCrcComputed hrow).1 hp
    · obtain ⟨hpasses, hvalue⟩ := frmDec_of_fullSpanAlone hrow
      rw [hpasses, hvalue]; rfl
    · obtain ⟨hpasses, hvalue⟩ := frmDec_of_bothSpans hrow
      rw [hpasses, hvalue]; rfl

/-! ### Issued words -/

theorem issuedPasses_of_ok {w : Word32} (h : decodeCommand w = .ok i) (s : State) :
    issuedPasses w s = commandPasses i s := by simp only [issuedPasses, h]

theorem issuedPasses_of_error {w : Word32} {e : DecodeError} (h : decodeCommand w = .error e) (s : State) :
    issuedPasses w s = [] := by simp only [issuedPasses, h]

theorem issuedBitSteps_of_ok {w : Word32} (h : decodeCommand w = .ok i) (s : State) :
    issuedBitSteps w s = commandBitSteps i s := by rw [issuedBitSteps, issuedPasses_of_ok h, commandBitSteps]

/-- The engine ends with the CRC that the command leaves (spec/40_crc.md R93). -/
theorem issueCommand_crc_of_passes {w : Word32} (h : issueCommand w s = .next t) (hp : issuedPasses w s ≠ []) :
    (s.runPasses (issuedPasses w s)).crc = t.crc := by
  cases hw : decodeCommand w with
  | error e => exact absurd (issuedPasses_of_error hw s) hp
  | ok i =>
    rw [issuedPasses_of_ok hw] at hp ⊢
    rw [issueCommand_of_ok hw] at h
    rw [s.runPasses_crc (commandPasses_busy i s), exec_crc_of_passes h hp]

theorem issueCommand_illegal_bitSteps {w : Word32} (hw : ∀ i, decodeCommand w ≠ .ok i) (s : State) :
    ∃ t, issueCommand w s = .next t ∧ t.crc = s.crc ∧ issuedBitSteps w s = 0 := by
  refine ⟨_, issueCommand_illegal hw s, rfl, ?_⟩
  cases he : decodeCommand w with
  | error e => rw [issuedBitSteps, issuedPasses_of_error he]; rfl
  | ok i => exact absurd he (hw i)

end Sys2Proof.Machine

namespace Sys2Proof.Safety

open Sys2Proof.Machine

variable {s : State}

/-! ### The rows of R183 -/

theorem crcByte_bitSteps (b : Byte) (s : State) :
    ∃ t, exec (.crcByte b) s = .next t ∧ commandBitSteps (.crcByte b) s = 8 ∧ EngineComputes s.crc [b] 8 t.crc :=
  ⟨_, execCrcByte_eq b s, commandBitSteps_eq .., engineComputes_crcFrom s.crc [b]⟩

theorem crcCalc_bitSteps (h : s.rxCount.toNat ≤ s.config.rxCapacity) :
    ∃ t, exec .crcCalc s = .next t ∧ commandBitSteps .crcCalc s = 8 * s.rxCount.toNat
      ∧ EngineComputes 0xFFFF#16 (s.firstBytes .rxBuf s.rxCount.toNat) (8 * s.rxCount.toNat) t.crc := by
  have hcount : s.badCount = false := State.badCount_eq_false_iff.mpr h
  refine ⟨_, execCrcCalc_of_not_badCount hcount, ?_, engineComputes_crc16 s.received_length⟩
  rw [commandBitSteps_eq, commandPasses_crcCalc_of_not_badCount hcount, List.map_singleton, List.sum_singleton,
    State.received_length]

theorem crcCalc_badCount_bitSteps (h : s.config.rxCapacity < s.rxCount.toNat) :
    ∃ t, exec .crcCalc s = .next t ∧ t.crc = s.crc ∧ commandBitSteps .crcCalc s = 0 := by
  have hcount : s.badCount = true := State.badCount_eq_true_iff.mpr h
  refine ⟨_, execCrcCalc_of_badCount hcount, rfl, ?_⟩
  rw [commandBitSteps, commandPasses_crcCalc_of_badCount hcount]
  rfl

theorem frmEnc_bitSteps (s : State) :
    ∃ t, exec .frmEnc s = .next t ∧ commandBitSteps .frmEnc s = 8 * (8 + s.reqLen.toNat)
      ∧ 64 ≤ commandBitSteps .frmEnc s ∧ commandBitSteps .frmEnc s ≤ 2104
      ∧ EngineComputes 0xFFFF#16 (t.firstBytes .txBuf (8 + s.reqLen.toNat)) (8 * (8 + s.reqLen.toNat)) t.crc := by
  obtain ⟨t, h⟩ := exec_goesOn .frmEnc s
  have hsteps : commandBitSteps .frmEnc s = 8 * (8 + s.reqLen.toNat) := by
    rw [commandBitSteps_eq, commandPasses, List.map_singleton, List.sum_singleton, State.requestBody_length]
  have hlen : s.reqLen.toNat < 2 ^ 8 := s.reqLen.isLt
  refine ⟨t, h, hsteps, by omega, by omega, ?_⟩
  rw [execFrmEnc_txBuf_body h, execFrmEnc_crc h]
  exact engineComputes_crc16 s.requestBody_length

theorem frmDec_noCrcComputed_bitSteps
    (h : decodePath s ∈ [.badCount, .tooShort, .badStart, .truncated, .noCrc]) :
    ∃ t, exec .frmDec s = .next t ∧ t.crc = s.crc ∧ commandBitSteps .frmDec s = 0 := by
  obtain ⟨hpasses, hvalue⟩ := frmDec_of_noCrcComputed h
  obtain ⟨t, ht, -, hcrc⟩ := execFrmDec_status_crc s
  exact ⟨t, ht, hcrc.trans hvalue, by rw [commandBitSteps, hpasses]; rfl⟩

theorem engineComputes_rxFullCrc (s : State) :
    EngineComputes 0xFFFF#16 (s.firstBytes .rxBuf (8 + rxLen s)) (8 * (8 + rxLen s)) (rxFullCrc s) :=
  engineComputes_crc16 (s.firstBytes_length .rxBuf _)

theorem frmDec_fullSpanAlone_bitSteps (h : decodePath s = .fullSpan ∨ (decodePath s = .mismatch ∧ s.cfg = 0#1)) :
    ∃ t, exec .frmDec s = .next t ∧ commandBitSteps .frmDec s = 8 * (8 + rxLen s)
      ∧ EngineComputes 0xFFFF#16 (s.firstBytes .rxBuf (8 + rxLen s)) (8 * (8 + rxLen s)) t.crc := by
  obtain ⟨hpasses, hvalue⟩ := frmDec_of_fullSpanAlone h
  obtain ⟨t, ht, -, hcrc⟩ := execFrmDec_status_crc s
  refine ⟨t, ht, ?_, by rw [hcrc, hvalue]; exact engineComputes_rxFullCrc s⟩
  rw [commandBitSteps_eq, hpasses, List.map_singleton, List.sum_singleton, State.fullSpanPass,
    State.firstBytes_length]

theorem frmDec_bothSpans_bitSteps (h : decodePath s = .payloadOnly ∨ (decodePath s = .mismatch ∧ s.cfg = 1#1)) :
    ∃ t full, exec .frmDec s = .next t ∧ commandBitSteps .frmDec s = 8 * (8 + rxLen s) + 8 * rxLen s
      ∧ commandBitSteps .frmDec s ≤ 4144
      ∧ EngineComputes 0xFFFF#16 (s.firstBytes .rxBuf (8 + rxLen s)) (8 * (8 + rxLen s)) full ∧ full ≠ rxTrailer s
      ∧ EngineComputes 0xFFFF#16 (rxPayload s) (8 * rxLen s) t.crc := by
  obtain ⟨hpasses, hvalue⟩ := frmDec_of_bothSpans h
  obtain ⟨t, ht, -, hcrc⟩ := execFrmDec_status_crc s
  have hsteps : commandBitSteps .frmDec s = 8 * (8 + rxLen s) + 8 * rxLen s := by
    rw [commandBitSteps_eq, hpasses, List.map_cons, List.map_singleton, List.sum_cons, List.sum_singleton,
      State.fullSpanPass, State.payloadPass, State.firstBytes_length, rxPayload_length]
  have hlen : rxLen s < 2 ^ 8 := (s.readByte .rxBuf 5).isLt
  refine ⟨t, rxFullCrc s, ht, hsteps, by omega, engineComputes_rxFullCrc s,
    rxFullCrc_ne_rxTrailer (h.imp_right And.left), ?_⟩
  rw [hcrc, hvalue]
  exact engineComputes_crc16 (rxPayload_length s)

/-- Settles O53, row by row of R183. -/
theorem bitStepCounts : Obligations.BitStepCounts :=
  ⟨fun _ _ _ => issueCommand_crc_of_passes, fun _ s _ hw => issuedBitSteps_of_ok hw s,
    fun _ s hw => issueCommand_illegal_bitSteps hw s, fun s => ⟨s, execNop_eq s, rfl, rfl⟩,
    fun s => ⟨_, execCrcInit_eq s, rfl, rfl⟩, fun s => ⟨_, execSrst_eq s, rfl, rfl⟩, crcByte_bitSteps,
    fun _ => crcCalc_bitSteps, fun _ => crcCalc_badCount_bitSteps, frmEnc_bitSteps,
    fun _ => frmDec_noCrcComputed_bitSteps, fun _ => frmDec_fullSpanAlone_bitSteps,
    fun _ => frmDec_bothSpans_bitSteps⟩

end Sys2Proof.Safety
end
